-- ==== Sys2Proof/Config.lean ====
section
/-! DEFINITION. The parameters the specification leaves OPEN (00_scope.md R7) that choose a behaviour of
the core. They are plain data held in the state (`State.cfg`), never written by a step, so that every
statement about all states holds for every choice of them. The other OPEN parameters (ROM_IMAGE,
BOOT_IMAGE, EXT_RAM_SIZE, EXT_RAM_INIT, MEM_INIT) are contents of memories: `Machine/Construct.lean`. -/

namespace Sys2Proof

/-- ILLEGAL_OPCODE_MODE (R7, D6): what one of the eleven unrecognized opcodes does (R199, R200). -/
inductive IllegalOpcodeMode where
  | lenient
  | lock
deriving DecidableEq, Repr

/-- EI_COMMIT (R7, D7): when the enable that EI leaves pending takes effect (R204, R205). -/
inductive EiCommit where
  | afterNextInstruction
  | stepStart
deriving DecidableEq, Repr

/-- The OPEN parameters of R7 that select a behaviour. -/
structure Config where
  /-- ILLEGAL_OPCODE_MODE. -/
  illegalOpcodeMode : IllegalOpcodeMode
  /-- EI_COMMIT. -/
  eiCommit : EiCommit
  /-- DIV_WRITE_RESET (R62, D22): a CPU write to 0xFF04 stores 0. -/
  divWriteReset : Bool
  /-- TRACE_ENABLED (R229, D52). -/
  traceEnabled : Bool
deriving DecidableEq, Repr

/-- The defaults of R7: Lenient, AfterNextInstruction, false, false. -/
def Config.default : Config where
  illegalOpcodeMode := .lenient
  eiCommit := .afterNextInstruction
  divWriteReset := false
  traceEnabled := false

end Sys2Proof
end

