-- ==== Sys2Proof/Word.lean ====
section
/-! DEFINITION. The word types of the machine (R8, R9, R17): bytes, halfwords and 2-bit shades.
Only what the manual treats as bits is a bit vector; the counters of the timer and the PPU are `Nat`. -/

namespace Sys2Proof

/-- A u8 of the manual (R8). -/
abbrev Byte := BitVec 8

/-- A u16 of the manual (R8): addresses, PC, SP and register pairs. -/
abbrev Word := BitVec 16

/-- A shade 0..3 of the frame buffer, or a 2-bit colour index (R33). -/
abbrev Shade := BitVec 2

end Sys2Proof
end

