-- ==== Sys2Proof/Machine/State.lean ====
section
/-! DEFINITION. The state of the machine: every piece of state of 10_state.md (R17 to R42) and of
60_exceptions.md, as plain data, and its value at reset (R236). -/

namespace Sys2Proof.Machine

/-- A byte memory: pairs of address and byte in one canonical form (`Memory.wf`, in
`Machine/Memory.lean`). An unlisted address reads `unlistedByte`. -/
abbrev Memory := List Host.Cell

/-- A byte string of a given length: ROM_IMAGE, BOOT_IMAGE, external RAM (R7). The cells are its bytes
that differ from `unlistedByte`. -/
structure Image where
  size : Nat
  cells : Memory
deriving DecidableEq, Repr

/-- Why a session cannot be constructed (R235): missing, empty or unreadable ROM. -/
inductive LoadError where
  | missingRom
  | emptyRom
  | unreadableRom
deriving DecidableEq, Repr

/-- Why the machine stops with a fault. The core raises no synchronous exception (R202), so no meaning
and no step answers with one. -/
inductive Fault where
  /-- Raised by `State.construct` only: the fatal `LoadError(reason)` of R235. Safe: no session exists
  then, and nothing is claimed of one. -/
  | loadError (reason : LoadError)
deriving DecidableEq, Repr

/-- Why an instruction has no meaning in the model. -/
inductive Refusal where
  /-- Raised by an arm of `exec` whose instruction has no meaning yet (no arm has it now). Safe. -/
  | notModelled (mnemonic : String)
deriving DecidableEq, Repr

/-- What a meaning and a step answer. -/
abbrev Result (σ : Type) := Host.Outcome σ Fault Refusal

/-- The CPU run-state (R25). `locked` is entered under ILLEGAL_OPCODE_MODE = Lock only (R200). -/
inductive RunState where
  | running
  | halted
  | stopped
  | locked
deriving DecidableEq, Repr

/-- The five interrupt sources, in priority order (R206, R209). -/
inductive Interrupt where
  | vblank
  | lcdStat
  | timer
  | serial
  | joypad
deriving DecidableEq, Repr

/-- The cartridge controller, chosen once from the type byte (R31, R49). -/
inductive CartKind where
  | noMbc
  | mbc1
deriving DecidableEq, Repr

/-- The display mode (R33, R216). -/
inductive PpuMode where
  | hblank
  | vblank
  | oamSearch
  | pixelTransfer
deriving DecidableEq, Repr

/-- A non-fatal event of the diagnostics channel (R15, D47). -/
inductive Diagnostic where
  | unknownCartridgeType (t : Byte)
  | unrecognizedOpcode (address : Word) (opcode : Byte)
deriving DecidableEq, Repr

/-- One tuple of the trace log (R229): address and value of the opcode byte, cycles of the step, and
`total_cycles` after the step. -/
structure TraceEntry where
  address : Word
  opcode : Byte
  cycles : Nat
  totalCycles : Nat
deriving DecidableEq, Repr

/-- The CPU register file (R17): eight 8-bit registers, SP and PC. BC, DE, HL and AF have no storage of
their own (R18, R19). Bits 3..0 of F are zero after every write of F (R20). -/
structure Regs where
  a : Byte
  f : Byte
  b : Byte
  c : Byte
  d : Byte
  e : Byte
  h : Byte
  l : Byte
  sp : Word
  pc : Word
deriving DecidableEq, Repr

/-- The cartridge (R31): the immutable ROM, the controller, external RAM and the MBC1 control state. -/
structure Cart where
  rom : Image
  kind : CartKind
  eram : Image
  ramEnable : Bool
  /-- Never 0 (R54). -/
  bankLo : BitVec 5
  bankHi : BitVec 2
  ramBank : BitVec 2
  /-- The 1-bit `mode` of R31: false is ROM-bank extension, true is RAM-bank select. -/
  bankMode : Bool
deriving DecidableEq, Repr

/-- The residual cycles of the timer (R32). DIV, TIMA, TMA and TAC are bytes of `State.mem`. -/
structure Timer where
  divAcc : Nat
  timaAcc : Nat
deriving DecidableEq, Repr

/-- The PPU (R33). LCDC, STAT, SCY, SCX, LY, LYC, the palettes, WY and WX are bytes of `State.mem`. -/
structure Ppu where
  /-- The scanline, 0..153. -/
  ly : Nat
  /-- The dot in the scanline, 0..455 after every advance. -/
  dot : Nat
  mode : PpuMode
  /-- The frame buffer: 144 rows of 160 shades. -/
  fb : Vector (Vector Shade 160) 144
deriving DecidableEq, Repr

/-- The machine's counter, log and host-facing channels (R34), oldest entry first. No rule of
execution reads them. -/
structure HostOut where
  totalCycles : Nat
  trace : List TraceEntry
  diagnostics : List Diagnostic
  serial : List Byte
  /-- How many `FrameReady` events were emitted (R224): the event carries no data. -/
  frames : Nat
deriving DecidableEq, Repr

/-- The whole machine. -/
structure State where
  regs : Regs
  /-- The interrupt master enable (R26). -/
  ime : Bool
  /-- The pending enable that EI leaves (R26). -/
  imePending : Bool
  run : RunState
  /-- The backing array `mem[0..0xFFFF]` of the bus (R27), IF and IE among its bytes (R28). -/
  mem : Memory
  /-- BOOT_IMAGE (R29); size 0 when there is none (D55). -/
  boot : Image
  bootActive : Bool
  /-- Bits 5..4 of the last byte written to 0xFF00 (R30). -/
  joypSelect : BitVec 2
  /-- The host's button state (R30), 1 = pressed; no step writes it. -/
  buttons : Byte
  cart : Cart
  timer : Timer
  ppu : Ppu
  out : HostOut
  /-- The cycles the last step returned (R16, R232); a meaning writes the cost of its instruction here. -/
  cycles : Nat
  /-- The OPEN parameters of R7; no step writes them. -/
  cfg : Config
deriving DecidableEq, Repr

/-- A frame buffer of shade 0 (R41). -/
def blankFrame : Vector (Vector Shade 160) 144 := Vector.replicate 144 (Vector.replicate 160 0)

/-- The CPU registers at reset without a boot image (R37). -/
def Regs.resetNoBoot : Regs where
  a := 0x01
  f := 0xB0
  b := 0x00
  c := 0x13
  d := 0x00
  e := 0xD8
  h := 0x01
  l := 0x4D
  sp := 0xFFFE
  pc := 0x0100

/-- The CPU registers at reset with a boot image (R37): all zero. -/
def Regs.resetBoot : Regs where
  a := 0
  f := 0
  b := 0
  c := 0
  d := 0
  e := 0
  h := 0
  l := 0
  sp := 0
  pc := 0

/-- The machine right after reset (R236), every OPEN parameter at its default (R7): no boot image,
MEM_INIT all zero, and, as ROM_IMAGE has no default, a 32 KiB image of zero bytes (log entry 1).
`State.construct` (`Machine/Construct.lean`) is reset for every choice of the parameters. -/
def State.reset : State where
  regs := Regs.resetNoBoot
  ime := false
  imePending := false
  run := .running
  mem := []
  boot := ⟨0, []⟩
  bootActive := false
  joypSelect := 0
  buttons := 0
  cart := {
    rom := ⟨0x8000, []⟩
    kind := .noMbc
    eram := ⟨0, []⟩
    ramEnable := false
    bankLo := 1
    bankHi := 0
    ramBank := 0
    bankMode := false }
  timer := ⟨0, 0⟩
  ppu := { ly := 0, dot := 0, mode := .oamSearch, fb := blankFrame }
  out := { totalCycles := 0, trace := [], diagnostics := [], serial := [], frames := 0 }
  cycles := 0
  cfg := Config.default

end Sys2Proof.Machine
end

