-- ==== Sys2Proof/Machine/Memory.lean ====
section
/-! DEFINITION. The list memory behind the bus, the ROM, the boot image and the external RAM, in one
canonical form: addresses strictly rising, no entry equal to what an unlisted address reads as. -/

namespace Sys2Proof.Machine

/-- What an unlisted address reads as: MEM_INIT and EXT_RAM_INIT are all zero by default (R7, D29, D31). -/
def unlistedByte : Byte := 0

/-- The byte at an address. -/
def Memory.read : Memory → Nat → Byte
  | [], _ => unlistedByte
  | (k, v) :: rest, a => if k = a then v else Memory.read rest a

/-- The memory without any entry for the address. -/
def Memory.erase (m : Memory) (a : Nat) : Memory := m.filter fun cell => cell.1 != a

/-- The memory with an entry put before the first entry of a higher address. -/
def Memory.insert : Memory → Nat → Byte → Memory
  | [], a, v => [(a, v)]
  | (k, w) :: rest, a, v => if a < k then (a, v) :: (k, w) :: rest else (k, w) :: Memory.insert rest a v

/-- The memory after the byte `v` is stored at `a`. -/
def Memory.write (m : Memory) (a : Nat) (v : Byte) : Memory :=
  if v = unlistedByte then m.erase a else (m.erase a).insert a v

/-- The canonical form. -/
abbrev Memory.wf (m : Memory) : Prop :=
  m.Pairwise (fun x y => x.1 < y.1) ∧ ∀ cell ∈ m, cell.2 ≠ unlistedByte

/-- Every listed address is below `n`. -/
abbrev Memory.below (m : Memory) (n : Nat) : Prop := ∀ cell ∈ m, cell.1 < n

/-- Byte `i` of an image. -/
def Image.read (img : Image) (i : Nat) : Byte := img.cells.read i

/-- The image with byte `i` replaced. -/
def Image.write (img : Image) (i : Nat) (v : Byte) : Image := { img with cells := img.cells.write i v }

/-- The image's cells are in canonical form and inside its length. -/
abbrev Image.wf (img : Image) : Prop := img.cells.wf ∧ img.cells.below img.size

end Sys2Proof.Machine
end

