-- ==== Sys2Proof/Machine/Params.lean ====
section
/-! DEFINITION. The fixed numbers of the core: costs of the steps that run no instruction (D4, D5, D6),
addresses of the I/O registers (R35), timer periods (R214) and the geometry of the screen (R216). -/

namespace Sys2Proof.Machine

/-- `C_IRQ`, the cycles of an interrupt service step (R204, D4). -/
def cIrq : Nat := 20
/-- `C_HALT`, the cycles of a halted step (R204, D5). -/
def cHalt : Nat := 4
/-- `C_STOP`, the cycles of a stopped or locked step (R204, D5). -/
def cStop : Nat := 4
/-- `C_ILLEGAL`, the cycles of an unrecognized opcode (R199, D6). -/
def cIllegal : Nat := 4

/-- JOYP, the joypad register (R35, R58). -/
def ioJoyp : Word := 0xFF00
/-- SB, the serial data register (R35, R59). -/
def ioSb : Word := 0xFF01
/-- SC, the serial control register (R35, R59). -/
def ioSc : Word := 0xFF02
/-- DIV, the divider (R35, R214). -/
def ioDiv : Word := 0xFF04
/-- TIMA, the timer counter (R35, R214). -/
def ioTima : Word := 0xFF05
/-- TMA, the reload value of TIMA (R35, R214). -/
def ioTma : Word := 0xFF06
/-- TAC, the timer control (R35, R214). -/
def ioTac : Word := 0xFF07
/-- IF, the interrupt request byte (R28, R35). -/
def ioIf : Word := 0xFF0F
/-- LCDC (R35, D35). -/
def ioLcdc : Word := 0xFF40
/-- STAT (R35, D34, D36). -/
def ioStat : Word := 0xFF41
/-- SCY (R35). -/
def ioScy : Word := 0xFF42
/-- SCX (R35). -/
def ioScx : Word := 0xFF43
/-- LY (R35, R217). -/
def ioLy : Word := 0xFF44
/-- LYC (R35, R219). -/
def ioLyc : Word := 0xFF45
/-- DMA, the OAM DMA trigger (R35, R60). -/
def ioDma : Word := 0xFF46
/-- BGP (R35). -/
def ioBgp : Word := 0xFF47
/-- OBP0 (R35). -/
def ioObp0 : Word := 0xFF48
/-- OBP1 (R35). -/
def ioObp1 : Word := 0xFF49
/-- WY (R35). -/
def ioWy : Word := 0xFF4A
/-- WX (R35). -/
def ioWx : Word := 0xFF4B
/-- BOOT, the boot overlay disable register (R35, R61). -/
def ioBoot : Word := 0xFF50
/-- IE, the interrupt enable byte (R28, R35). -/
def ioIe : Word := 0xFFFF

/-- The value that starts a serial transfer (R59). -/
def serialStart : Byte := 0x81

/-- The base of OAM (R44). -/
def oamBase : Nat := 0xFE00
/-- The length of an OAM DMA in bytes (R60). -/
def dmaLength : Nat := 160
/-- The number of OAM entries (R222). -/
def oamEntries : Nat := 40

/-- The cycles between two increments of DIV (R214). -/
def divPeriod : Nat := 256

/-- The period TAC[1:0] selects: 00 -> 1024, 01 -> 16, 10 -> 64, 11 -> 256 (R214). -/
def timerPeriod (tac : Byte) : Nat :=
  match tac.toNat % 4 with
  | 0 => 1024
  | 1 => 16
  | 2 => 64
  | _ => 256

/-- Dots of a scanline (R216). -/
def dotsPerLine : Nat := 456
/-- Scanlines of a frame (R216). -/
def linesPerFrame : Nat := 154
/-- The first line of V-Blank, and the number of visible lines (R216). -/
def visibleLines : Nat := 144
/-- Columns of a visible line (R220). -/
def lineColumns : Nat := 160

end Sys2Proof.Machine
end

