-- ==== Sys2Proof/Machine/Render.lean ====
section
/-! DEFINITION. The scanline renderer (60_exceptions.md R220 to R223), a function of the backing array and
the line: it reads I/O bytes, VRAM and OAM there and nothing else. R220 and R222 paint whole lines back
to front; here each of the 160 columns is painted back to front on its own. -/

namespace Sys2Proof.Machine

/-- An I/O byte as the renderer reads it. -/
def Memory.io (m : Memory) (a : Word) : Byte := m.read a.toNat

/-- The address of a tile of the background or the window (R220): unsigned from 0x8000 when LCDC bit 4 is
1, signed relative to 0x9000 otherwise. -/
def tileBase (lcdc t : Byte) : Nat :=
  if lcdc.getLsbD 4 then 0x8000 + 16 * t.toNat else ((0x9000 : Int) + 16 * t.toInt).toNat

/-- `tile_pixel(base, row, col)` (R220, D42): the 2-bit colour index from the two bit planes. -/
def Memory.tilePixel (m : Memory) (base row col : Nat) : Shade :=
  BitVec.ofBool ((m.read (base + 2 * row + 1)).getLsbD (7 - col)) ++
    BitVec.ofBool ((m.read (base + 2 * row)).getLsbD (7 - col))

/-- `(pal >> 2i) & 3` (R220, D42). -/
def paletteShade (pal : Byte) (i : Shade) : Shade := (pal >>> (2 * i.toNat)).setWidth 2

/-- The base of the tile map that an LCDC bit selects (R220). -/
def mapBase (lcdc : Byte) (bit : Nat) : Nat := if lcdc.getLsbD bit then 0x9C00 else 0x9800

/-- The colour index at a row and column of a tile map (R220). -/
def Memory.mapPixel (m : Memory) (map row col : Nat) : Shade :=
  let t := m.read (map + row / 8 * 32 + col / 8)
  m.tilePixel (tileBase (m.io ioLcdc) t) (row % 8) (col % 8)

/-- The background's colour index at a column of a line (R220), `none` when LCDC bit 0 is 0. -/
def Memory.bgIndex (m : Memory) (ly x : Nat) : Option Shade :=
  if (m.io ioLcdc).getLsbD 0 then
    some (m.mapPixel (mapBase (m.io ioLcdc) 3)
      ((ly + (m.io ioScy).toNat) % 256) ((x + (m.io ioScx).toNat) % 256))
  else none

/-- The window's colour index at a column of a line (R220, R221), `none` where it is not drawn: enabled
by LCDC bit 5, from line WY on, from column WX - 7 on. -/
def Memory.windowIndex (m : Memory) (ly x : Nat) : Option Shade :=
  if (m.io ioLcdc).getLsbD 5 ∧ (m.io ioWy).toNat ≤ ly ∧ (m.io ioWx).toNat ≤ x + 7 then
    some (m.mapPixel (mapBase (m.io ioLcdc) 6) (ly - (m.io ioWy).toNat) (x + 7 - (m.io ioWx).toNat))
  else none

/-- What is drawn behind the sprites at a column: the window over the background (R220). -/
def Memory.backIndex (m : Memory) (ly x : Nat) : Option Shade := (m.windowIndex ly x).or (m.bgIndex ly x)

/-- `idx[x]` (R220): 0 where nothing is drawn. -/
def Memory.backColour (m : Memory) (ly x : Nat) : Shade := (m.backIndex ly x).getD 0

/-- `shade[x]` before the sprites (R220, D38): through BGP, shade 0 where nothing is drawn. -/
def Memory.backShade (m : Memory) (ly x : Nat) : Shade :=
  match m.backIndex ly x with
  | some i => paletteShade (m.io ioBgp) i
  | none => 0

/-- Byte `k` of OAM entry `n` (R222): Y, X, tile, attributes. -/
def Memory.oam (m : Memory) (n k : Nat) : Byte := m.read (oamBase + 4 * n + k)

/-- The sprite height (R222): 16 when LCDC bit 2 is 1, else 8. -/
def Memory.spriteHeight (m : Memory) : Nat := if (m.io ioLcdc).getLsbD 2 then 16 else 8

/-- `Y(n) - 16 <= ly < Y(n) - 16 + h` (R222). -/
def Memory.spriteOnLine (m : Memory) (ly n : Nat) : Bool :=
  decide ((m.oam n 0).toNat ≤ ly + 16) && decide (ly + 16 < (m.oam n 0).toNat + m.spriteHeight)

/-- The order of the sprites of a line (R222): by (X, index). -/
abbrev Memory.spriteBefore (m : Memory) (n k : Nat) : Prop :=
  (m.oam n 1).toNat < (m.oam k 1).toNat ∨ ((m.oam n 1).toNat = (m.oam k 1).toNat ∧ n ≤ k)

/-- A sprite put at its place in an ordered list. -/
def Memory.placeSprite (m : Memory) (n : Nat) : List Nat → List Nat
  | [] => [n]
  | k :: rest => if m.spriteBefore n k then n :: k :: rest else k :: m.placeSprite n rest

/-- `S` (R222): every sprite that meets the line, in priority order, highest first. -/
def Memory.lineSprites (m : Memory) (ly : Nat) : List Nat :=
  ((List.range oamEntries).filter (m.spriteOnLine ly)).foldr m.placeSprite []

/-- The row of the sprite on the line, after the Y flip (R222). -/
def Memory.spriteRow (m : Memory) (ly n : Nat) : Nat :=
  let row := ly + 16 - (m.oam n 0).toNat
  if (m.oam n 3).getLsbD 6 then m.spriteHeight - 1 - row else row

/-- The tile of the sprite (R222): bit 0 dropped when sprites are 16 lines high. -/
def Memory.spriteTile (m : Memory) (n : Nat) : Nat :=
  if m.spriteHeight = 16 then (m.oam n 2 &&& 0xFE).toNat else (m.oam n 2).toNat

/-- The palette of the sprite (R222): OBP1 when attribute bit 4 is 1, else OBP0. -/
def Memory.spritePalette (m : Memory) (n : Nat) : Byte :=
  if (m.oam n 3).getLsbD 4 then m.io ioObp1 else m.io ioObp0

/-- What sprite `n` paints at column `x` of the line (R222): nothing outside its eight columns, where its
colour index is 0, or where it is behind a background or window pixel of nonzero index. -/
def Memory.spriteShade (m : Memory) (ly x n : Nat) : Option Shade :=
  let left := (m.oam n 1).toNat
  if left ≤ x + 8 ∧ x + 8 < left + 8 then
    let p := x + 8 - left
    let col := if (m.oam n 3).getLsbD 5 then 7 - p else p
    let i := m.tilePixel (0x8000 + 16 * m.spriteTile n) (m.spriteRow ly n) col
    if i = 0 then none
    else if (m.oam n 3).getLsbD 7 ∧ m.backColour ly x ≠ 0 then none
    else some (paletteShade (m.spritePalette n) i)
  else none

/-- The shade of column `x` after the sprites `order` are painted over it, the last one first (R222). -/
def Memory.paintColumn (m : Memory) (ly : Nat) (order : List Nat) (x : Nat) : Shade :=
  order.reverse.foldl (fun shade n => (m.spriteShade ly x n).getD shade) (m.backShade ly x)

/-- The sprites painted on the line (R220, R222): none when LCDC bit 1 is 0. -/
def Memory.paintedSprites (m : Memory) (ly : Nat) : List Nat :=
  if (m.io ioLcdc).getLsbD 1 then m.lineSprites ly else []

/-- `render_line(ly)` (R220): the 160 shades of the line. -/
def Memory.renderLine (m : Memory) (ly : Nat) : Vector Shade 160 :=
  let order := m.paintedSprites ly
  ⟨((List.range 160).map (m.paintColumn ly order)).toArray, by simp⟩

end Sys2Proof.Machine
end

