-- ==== Sys2Proof/Machine/Bits.lean ====
section
/-! DEFINITION. Byte order, concatenation and sign extension (R8, R9), in one place. -/

namespace Sys2Proof.Machine

/-- `concat(hi, lo)` (R8): the u16 `hi * 256 + lo`. -/
def concat (hi lo : Byte) : Word := hi ++ lo

/-- `v[15:8]` (R8). -/
def hiByte (v : Word) : Byte := v.extractLsb' 8 8

/-- `v[7:0]` (R8). -/
def loByte (v : Word) : Byte := v.extractLsb' 0 8

/-- `sext_16(v)` (R9): the byte read as two's complement and extended to 16 bits. -/
def sext16 (v : Byte) : Word := v.signExtend 16

/-- The address `0xFF00 + v` of the high page (R79); the sum never wraps. -/
def highPage (v : Byte) : Word := concat 0xFF v

/-- A byte with only bit `i` set (0 when `i > 7`): the `1 << i` of the rules. -/
def bitMask (i : Nat) : Byte := 1#8 <<< i

end Sys2Proof.Machine
end

