-- ==== Sys2Proof/Syntax.lean ====
section
/-! DEFINITION. The instructions: one constructor per row of spec/opcode_table.json, named after the
row's assembler form (30_encoding.md R80, R81, R85): `At` stands for the parentheses of a memory
operand, `HLI` and `HLD` for `HL+` and `HL-`. Immediates are operands: n8, a8 and e8 a byte, n16 and a16
a halfword. The operand types of the encoded fields (R74 to R78) stand here too. -/

namespace Sys2Proof

/-- A register of the `r8` field (R75). The value 6, the byte at HL, is not a register: its forms are
instructions of their own. -/
inductive R8 where
  | b
  | c
  | d
  | e
  | h
  | l
  | a
deriving DecidableEq, Repr

/-- The `r16` field (R76). -/
inductive R16 where
  | bc
  | de
  | hl
  | sp
deriving DecidableEq, Repr

/-- The `r16stk` field (R77). -/
inductive R16Stk where
  | bc
  | de
  | hl
  | af
deriving DecidableEq, Repr

/-- The `cc` field (R78). -/
inductive Cond where
  | nz
  | z
  | nc
  | c
deriving DecidableEq, Repr

/-- The 8-bit ALU operations, in the order of the `y` field (R74, R114 to R137). -/
inductive AluOp where
  | add
  | adc
  | sub
  | sbc
  | and
  | xor
  | or
  | cp
deriving DecidableEq, Repr

/-- The CB-page rotates and shifts, in the order of the `y` field (R81, R153). -/
inductive RotOp where
  | rlc
  | rrc
  | rl
  | rr
  | sla
  | sra
  | swap
  | srl
deriving DecidableEq, Repr

/-- The instructions of the base and CB pages (R80, R81), the eleven unrecognized opcodes (R82) and the
CB prefix taken alone (R73, R198), in the table's order, those with an immediate operand first (a data
constructor's tag must be small for Lean's runtime). -/
inductive Instr where
  /-- LD BC,n16 (R105). -/
  | ldBCN16 (n : Word)
  /-- LD B,n8 (R87). -/
  | ldBN8 (n : Byte)
  /-- LD (a16),SP (R106). -/
  | ldAtA16SP (a : Word)
  /-- LD C,n8 (R87). -/
  | ldCN8 (n : Byte)
  /-- STOP, with its ignored byte (R191). -/
  | stop (n : Byte)
  /-- LD DE,n16 (R105). -/
  | ldDEN16 (n : Word)
  /-- LD D,n8 (R87). -/
  | ldDN8 (n : Byte)
  /-- JR e8 (R180). -/
  | jrE8 (e : Byte)
  /-- LD E,n8 (R87). -/
  | ldEN8 (n : Byte)
  /-- JR NZ,e8 (R181). -/
  | jrNZE8 (e : Byte)
  /-- LD HL,n16 (R105). -/
  | ldHLN16 (n : Word)
  /-- LD H,n8 (R87). -/
  | ldHN8 (n : Byte)
  /-- JR Z,e8 (R181). -/
  | jrZE8 (e : Byte)
  /-- LD L,n8 (R87). -/
  | ldLN8 (n : Byte)
  /-- JR NC,e8 (R181). -/
  | jrNCE8 (e : Byte)
  /-- LD SP,n16 (R105). -/
  | ldSPN16 (n : Word)
  /-- LD (HL),n8 (R90). -/
  | ldAtHLN8 (n : Byte)
  /-- JR C,e8 (R181). -/
  | jrCE8 (e : Byte)
  /-- LD A,n8 (R87). -/
  | ldAN8 (n : Byte)
  /-- JP NZ,a16 (R178). -/
  | jpNZA16 (a : Word)
  /-- JP a16 (R177). -/
  | jpA16 (a : Word)
  /-- CALL NZ,a16 (R183). -/
  | callNZA16 (a : Word)
  /-- ADD A,n8 (R116). -/
  | addAN8 (n : Byte)
  /-- JP Z,a16 (R178). -/
  | jpZA16 (a : Word)
  /-- CALL Z,a16 (R183). -/
  | callZA16 (a : Word)
  /-- CALL a16 (R182). -/
  | callA16 (a : Word)
  /-- ADC A,n8 (R119). -/
  | adcAN8 (n : Byte)
  /-- JP NC,a16 (R178). -/
  | jpNCA16 (a : Word)
  /-- CALL NC,a16 (R183). -/
  | callNCA16 (a : Word)
  /-- SUB n8 (R122). -/
  | subN8 (n : Byte)
  /-- JP C,a16 (R178). -/
  | jpCA16 (a : Word)
  /-- CALL C,a16 (R183). -/
  | callCA16 (a : Word)
  /-- SBC A,n8 (R125). -/
  | sbcAN8 (n : Byte)
  /-- LDH (a8),A (R98). -/
  | ldhAtA8A (n : Byte)
  /-- AND n8 (R128). -/
  | andN8 (n : Byte)
  /-- ADD SP,e8 (R147). -/
  | addSPE8 (e : Byte)
  /-- LD (a16),A (R96). -/
  | ldAtA16A (a : Word)
  /-- XOR n8 (R131). -/
  | xorN8 (n : Byte)
  /-- LDH A,(a8) (R97). -/
  | ldhAAtA8 (n : Byte)
  /-- OR n8 (R134). -/
  | orN8 (n : Byte)
  /-- LD HL,SP+e8 (R108). -/
  | ldHLSPE8 (e : Byte)
  /-- LD A,(a16) (R95). -/
  | ldAAtA16 (a : Word)
  /-- CP n8 (R137). -/
  | cpN8 (n : Byte)
  /-- NOP (R189). -/
  | nop
  /-- LD (BC),A (R93). -/
  | ldAtBCA
  /-- INC BC (R144). -/
  | incBC
  /-- INC B (R138). -/
  | incB
  /-- DEC B (R140). -/
  | decB
  /-- RLCA (R149). -/
  | rlca
  /-- ADD HL,BC (R143). -/
  | addHLBC
  /-- LD A,(BC) (R91). -/
  | ldAAtBC
  /-- DEC BC (R145). -/
  | decBC
  /-- INC C (R138). -/
  | incC
  /-- DEC C (R140). -/
  | decC
  /-- RRCA (R150). -/
  | rrca
  /-- LD (DE),A (R94). -/
  | ldAtDEA
  /-- INC DE (R144). -/
  | incDE
  /-- INC D (R138). -/
  | incD
  /-- DEC D (R140). -/
  | decD
  /-- RLA (R151). -/
  | rla
  /-- ADD HL,DE (R143). -/
  | addHLDE
  /-- LD A,(DE) (R92). -/
  | ldAAtDE
  /-- DEC DE (R145). -/
  | decDE
  /-- INC E (R138). -/
  | incE
  /-- DEC E (R140). -/
  | decE
  /-- RRA (R152). -/
  | rra
  /-- LD (HL+),A (R101). -/
  | ldAtHLIA
  /-- INC HL (R144). -/
  | incHL
  /-- INC H (R138). -/
  | incH
  /-- DEC H (R140). -/
  | decH
  /-- DAA (R194). -/
  | daa
  /-- ADD HL,HL (R143). -/
  | addHLHL
  /-- LD A,(HL+) (R103). -/
  | ldAAtHLI
  /-- DEC HL (R145). -/
  | decHL
  /-- INC L (R138). -/
  | incL
  /-- DEC L (R140). -/
  | decL
  /-- CPL (R195). -/
  | cpl
  /-- LD (HL-),A (R102). -/
  | ldAtHLDA
  /-- INC SP (R144). -/
  | incSP
  /-- INC (HL) (R139). -/
  | incAtHL
  /-- DEC (HL) (R141). -/
  | decAtHL
  /-- SCF (R196). -/
  | scf
  /-- ADD HL,SP (R143). -/
  | addHLSP
  /-- LD A,(HL-) (R104). -/
  | ldAAtHLD
  /-- DEC SP (R145). -/
  | decSP
  /-- INC A (R138). -/
  | incA
  /-- DEC A (R140). -/
  | decA
  /-- CCF (R197). -/
  | ccf
  /-- LD B,B (R86). -/
  | ldBB
  /-- LD B,C (R86). -/
  | ldBC
  /-- LD B,D (R86). -/
  | ldBD
  /-- LD B,E (R86). -/
  | ldBE
  /-- LD B,H (R86). -/
  | ldBH
  /-- LD B,L (R86). -/
  | ldBL
  /-- LD B,(HL) (R88). -/
  | ldBAtHL
  /-- LD B,A (R86). -/
  | ldBA
  /-- LD C,B (R86). -/
  | ldCB
  /-- LD C,C (R86). -/
  | ldCC
  /-- LD C,D (R86). -/
  | ldCD
  /-- LD C,E (R86). -/
  | ldCE
  /-- LD C,H (R86). -/
  | ldCH
  /-- LD C,L (R86). -/
  | ldCL
  /-- LD C,(HL) (R88). -/
  | ldCAtHL
  /-- LD C,A (R86). -/
  | ldCA
  /-- LD D,B (R86). -/
  | ldDB
  /-- LD D,C (R86). -/
  | ldDC
  /-- LD D,D (R86). -/
  | ldDD
  /-- LD D,E (R86). -/
  | ldDE
  /-- LD D,H (R86). -/
  | ldDH
  /-- LD D,L (R86). -/
  | ldDL
  /-- LD D,(HL) (R88). -/
  | ldDAtHL
  /-- LD D,A (R86). -/
  | ldDA
  /-- LD E,B (R86). -/
  | ldEB
  /-- LD E,C (R86). -/
  | ldEC
  /-- LD E,D (R86). -/
  | ldED
  /-- LD E,E (R86). -/
  | ldEE
  /-- LD E,H (R86). -/
  | ldEH
  /-- LD E,L (R86). -/
  | ldEL
  /-- LD E,(HL) (R88). -/
  | ldEAtHL
  /-- LD E,A (R86). -/
  | ldEA
  /-- LD H,B (R86). -/
  | ldHB
  /-- LD H,C (R86). -/
  | ldHC
  /-- LD H,D (R86). -/
  | ldHD
  /-- LD H,E (R86). -/
  | ldHE
  /-- LD H,H (R86). -/
  | ldHH
  /-- LD H,L (R86). -/
  | ldHL
  /-- LD H,(HL) (R88). -/
  | ldHAtHL
  /-- LD H,A (R86). -/
  | ldHA
  /-- LD L,B (R86). -/
  | ldLB
  /-- LD L,C (R86). -/
  | ldLC
  /-- LD L,D (R86). -/
  | ldLD
  /-- LD L,E (R86). -/
  | ldLE
  /-- LD L,H (R86). -/
  | ldLH
  /-- LD L,L (R86). -/
  | ldLL
  /-- LD L,(HL) (R88). -/
  | ldLAtHL
  /-- LD L,A (R86). -/
  | ldLA
  /-- LD (HL),B (R89). -/
  | ldAtHLB
  /-- LD (HL),C (R89). -/
  | ldAtHLC
  /-- LD (HL),D (R89). -/
  | ldAtHLD
  /-- LD (HL),E (R89). -/
  | ldAtHLE
  /-- LD (HL),H (R89). -/
  | ldAtHLH
  /-- LD (HL),L (R89). -/
  | ldAtHLL
  /-- HALT (R190). -/
  | halt
  /-- LD (HL),A (R89). -/
  | ldAtHLA
  /-- LD A,B (R86). -/
  | ldAB
  /-- LD A,C (R86). -/
  | ldAC
  /-- LD A,D (R86). -/
  | ldAD
  /-- LD A,E (R86). -/
  | ldAE
  /-- LD A,H (R86). -/
  | ldAH
  /-- LD A,L (R86). -/
  | ldAL
  /-- LD A,(HL) (R88). -/
  | ldAAtHL
  /-- LD A,A (R86). -/
  | ldAA
  /-- ADD A,B (R114). -/
  | addAB
  /-- ADD A,C (R114). -/
  | addAC
  /-- ADD A,D (R114). -/
  | addAD
  /-- ADD A,E (R114). -/
  | addAE
  /-- ADD A,H (R114). -/
  | addAH
  /-- ADD A,L (R114). -/
  | addAL
  /-- ADD A,(HL) (R115). -/
  | addAAtHL
  /-- ADD A,A (R114). -/
  | addAA
  /-- ADC A,B (R117). -/
  | adcAB
  /-- ADC A,C (R117). -/
  | adcAC
  /-- ADC A,D (R117). -/
  | adcAD
  /-- ADC A,E (R117). -/
  | adcAE
  /-- ADC A,H (R117). -/
  | adcAH
  /-- ADC A,L (R117). -/
  | adcAL
  /-- ADC A,(HL) (R118). -/
  | adcAAtHL
  /-- ADC A,A (R117). -/
  | adcAA
  /-- SUB B (R120). -/
  | subB
  /-- SUB C (R120). -/
  | subC
  /-- SUB D (R120). -/
  | subD
  /-- SUB E (R120). -/
  | subE
  /-- SUB H (R120). -/
  | subH
  /-- SUB L (R120). -/
  | subL
  /-- SUB (HL) (R121). -/
  | subAtHL
  /-- SUB A (R120). -/
  | subA
  /-- SBC A,B (R123). -/
  | sbcAB
  /-- SBC A,C (R123). -/
  | sbcAC
  /-- SBC A,D (R123). -/
  | sbcAD
  /-- SBC A,E (R123). -/
  | sbcAE
  /-- SBC A,H (R123). -/
  | sbcAH
  /-- SBC A,L (R123). -/
  | sbcAL
  /-- SBC A,(HL) (R124). -/
  | sbcAAtHL
  /-- SBC A,A (R123). -/
  | sbcAA
  /-- AND B (R126). -/
  | andB
  /-- AND C (R126). -/
  | andC
  /-- AND D (R126). -/
  | andD
  /-- AND E (R126). -/
  | andE
  /-- AND H (R126). -/
  | andH
  /-- AND L (R126). -/
  | andL
  /-- AND (HL) (R127). -/
  | andAtHL
  /-- AND A (R126). -/
  | andA
  /-- XOR B (R129). -/
  | xorB
  /-- XOR C (R129). -/
  | xorC
  /-- XOR D (R129). -/
  | xorD
  /-- XOR E (R129). -/
  | xorE
  /-- XOR H (R129). -/
  | xorH
  /-- XOR L (R129). -/
  | xorL
  /-- XOR (HL) (R130). -/
  | xorAtHL
  /-- XOR A (R129). -/
  | xorA
  /-- OR B (R132). -/
  | orB
  /-- OR C (R132). -/
  | orC
  /-- OR D (R132). -/
  | orD
  /-- OR E (R132). -/
  | orE
  /-- OR H (R132). -/
  | orH
  /-- OR L (R132). -/
  | orL
  /-- OR (HL) (R133). -/
  | orAtHL
  /-- OR A (R132). -/
  | orA
  /-- CP B (R135). -/
  | cpB
  /-- CP C (R135). -/
  | cpC
  /-- CP D (R135). -/
  | cpD
  /-- CP E (R135). -/
  | cpE
  /-- CP H (R135). -/
  | cpH
  /-- CP L (R135). -/
  | cpL
  /-- CP (HL) (R136). -/
  | cpAtHL
  /-- CP A (R135). -/
  | cpA
  /-- RET NZ (R185). -/
  | retNZ
  /-- POP BC (R111). -/
  | popBC
  /-- PUSH BC (R109). -/
  | pushBC
  /-- RST 0x00 (R187). -/
  | rst00
  /-- RET Z (R185). -/
  | retZ
  /-- RET (R184). -/
  | ret
  /-- PREFIX CB (R198). -/
  | prefixCB
  /-- RST 0x08 (R187). -/
  | rst08
  /-- RET NC (R185). -/
  | retNC
  /-- POP DE (R111). -/
  | popDE
  /-- the unrecognized opcode 0xD3 (R199). -/
  | illegalD3
  /-- PUSH DE (R109). -/
  | pushDE
  /-- RST 0x10 (R187). -/
  | rst10
  /-- RET C (R185). -/
  | retC
  /-- RETI (R186). -/
  | reti
  /-- the unrecognized opcode 0xDB (R199). -/
  | illegalDB
  /-- the unrecognized opcode 0xDD (R199). -/
  | illegalDD
  /-- RST 0x18 (R187). -/
  | rst18
  /-- POP HL (R111). -/
  | popHL
  /-- LD (C),A (R100). -/
  | ldAtCA
  /-- the unrecognized opcode 0xE3 (R199). -/
  | illegalE3
  /-- the unrecognized opcode 0xE4 (R199). -/
  | illegalE4
  /-- PUSH HL (R109). -/
  | pushHL
  /-- RST 0x20 (R187). -/
  | rst20
  /-- JP HL (R179). -/
  | jpHL
  /-- the unrecognized opcode 0xEB (R199). -/
  | illegalEB
  /-- the unrecognized opcode 0xEC (R199). -/
  | illegalEC
  /-- the unrecognized opcode 0xED (R199). -/
  | illegalED
  /-- RST 0x28 (R187). -/
  | rst28
  /-- POP AF (R112). -/
  | popAF
  /-- LD A,(C) (R99). -/
  | ldAAtC
  /-- DI (R192). -/
  | di
  /-- the unrecognized opcode 0xF4 (R199). -/
  | illegalF4
  /-- PUSH AF (R110). -/
  | pushAF
  /-- RST 0x30 (R187). -/
  | rst30
  /-- LD SP,HL (R107). -/
  | ldSPHL
  /-- EI (R193). -/
  | ei
  /-- the unrecognized opcode 0xFC (R199). -/
  | illegalFC
  /-- the unrecognized opcode 0xFD (R199). -/
  | illegalFD
  /-- RST 0x38 (R187). -/
  | rst38
  /-- RLC B (R154). -/
  | rlcB
  /-- RLC C (R154). -/
  | rlcC
  /-- RLC D (R154). -/
  | rlcD
  /-- RLC E (R154). -/
  | rlcE
  /-- RLC H (R154). -/
  | rlcH
  /-- RLC L (R154). -/
  | rlcL
  /-- RLC (HL) (R155). -/
  | rlcAtHL
  /-- RLC A (R154). -/
  | rlcA
  /-- RRC B (R156). -/
  | rrcB
  /-- RRC C (R156). -/
  | rrcC
  /-- RRC D (R156). -/
  | rrcD
  /-- RRC E (R156). -/
  | rrcE
  /-- RRC H (R156). -/
  | rrcH
  /-- RRC L (R156). -/
  | rrcL
  /-- RRC (HL) (R157). -/
  | rrcAtHL
  /-- RRC A (R156). -/
  | rrcA
  /-- RL B (R158). -/
  | rlB
  /-- RL C (R158). -/
  | rlC
  /-- RL D (R158). -/
  | rlD
  /-- RL E (R158). -/
  | rlE
  /-- RL H (R158). -/
  | rlH
  /-- RL L (R158). -/
  | rlL
  /-- RL (HL) (R159). -/
  | rlAtHL
  /-- RL A (R158). -/
  | rlA
  /-- RR B (R160). -/
  | rrB
  /-- RR C (R160). -/
  | rrC
  /-- RR D (R160). -/
  | rrD
  /-- RR E (R160). -/
  | rrE
  /-- RR H (R160). -/
  | rrH
  /-- RR L (R160). -/
  | rrL
  /-- RR (HL) (R161). -/
  | rrAtHL
  /-- RR A (R160). -/
  | rrA
  /-- SLA B (R162). -/
  | slaB
  /-- SLA C (R162). -/
  | slaC
  /-- SLA D (R162). -/
  | slaD
  /-- SLA E (R162). -/
  | slaE
  /-- SLA H (R162). -/
  | slaH
  /-- SLA L (R162). -/
  | slaL
  /-- SLA (HL) (R163). -/
  | slaAtHL
  /-- SLA A (R162). -/
  | slaA
  /-- SRA B (R164). -/
  | sraB
  /-- SRA C (R164). -/
  | sraC
  /-- SRA D (R164). -/
  | sraD
  /-- SRA E (R164). -/
  | sraE
  /-- SRA H (R164). -/
  | sraH
  /-- SRA L (R164). -/
  | sraL
  /-- SRA (HL) (R165). -/
  | sraAtHL
  /-- SRA A (R164). -/
  | sraA
  /-- SWAP B (R166). -/
  | swapB
  /-- SWAP C (R166). -/
  | swapC
  /-- SWAP D (R166). -/
  | swapD
  /-- SWAP E (R166). -/
  | swapE
  /-- SWAP H (R166). -/
  | swapH
  /-- SWAP L (R166). -/
  | swapL
  /-- SWAP (HL) (R167). -/
  | swapAtHL
  /-- SWAP A (R166). -/
  | swapA
  /-- SRL B (R168). -/
  | srlB
  /-- SRL C (R168). -/
  | srlC
  /-- SRL D (R168). -/
  | srlD
  /-- SRL E (R168). -/
  | srlE
  /-- SRL H (R168). -/
  | srlH
  /-- SRL L (R168). -/
  | srlL
  /-- SRL (HL) (R169). -/
  | srlAtHL
  /-- SRL A (R168). -/
  | srlA
  /-- BIT 0,B (R170). -/
  | bit0B
  /-- BIT 0,C (R170). -/
  | bit0C
  /-- BIT 0,D (R170). -/
  | bit0D
  /-- BIT 0,E (R170). -/
  | bit0E
  /-- BIT 0,H (R170). -/
  | bit0H
  /-- BIT 0,L (R170). -/
  | bit0L
  /-- BIT 0,(HL) (R171). -/
  | bit0AtHL
  /-- BIT 0,A (R170). -/
  | bit0A
  /-- BIT 1,B (R170). -/
  | bit1B
  /-- BIT 1,C (R170). -/
  | bit1C
  /-- BIT 1,D (R170). -/
  | bit1D
  /-- BIT 1,E (R170). -/
  | bit1E
  /-- BIT 1,H (R170). -/
  | bit1H
  /-- BIT 1,L (R170). -/
  | bit1L
  /-- BIT 1,(HL) (R171). -/
  | bit1AtHL
  /-- BIT 1,A (R170). -/
  | bit1A
  /-- BIT 2,B (R170). -/
  | bit2B
  /-- BIT 2,C (R170). -/
  | bit2C
  /-- BIT 2,D (R170). -/
  | bit2D
  /-- BIT 2,E (R170). -/
  | bit2E
  /-- BIT 2,H (R170). -/
  | bit2H
  /-- BIT 2,L (R170). -/
  | bit2L
  /-- BIT 2,(HL) (R171). -/
  | bit2AtHL
  /-- BIT 2,A (R170). -/
  | bit2A
  /-- BIT 3,B (R170). -/
  | bit3B
  /-- BIT 3,C (R170). -/
  | bit3C
  /-- BIT 3,D (R170). -/
  | bit3D
  /-- BIT 3,E (R170). -/
  | bit3E
  /-- BIT 3,H (R170). -/
  | bit3H
  /-- BIT 3,L (R170). -/
  | bit3L
  /-- BIT 3,(HL) (R171). -/
  | bit3AtHL
  /-- BIT 3,A (R170). -/
  | bit3A
  /-- BIT 4,B (R170). -/
  | bit4B
  /-- BIT 4,C (R170). -/
  | bit4C
  /-- BIT 4,D (R170). -/
  | bit4D
  /-- BIT 4,E (R170). -/
  | bit4E
  /-- BIT 4,H (R170). -/
  | bit4H
  /-- BIT 4,L (R170). -/
  | bit4L
  /-- BIT 4,(HL) (R171). -/
  | bit4AtHL
  /-- BIT 4,A (R170). -/
  | bit4A
  /-- BIT 5,B (R170). -/
  | bit5B
  /-- BIT 5,C (R170). -/
  | bit5C
  /-- BIT 5,D (R170). -/
  | bit5D
  /-- BIT 5,E (R170). -/
  | bit5E
  /-- BIT 5,H (R170). -/
  | bit5H
  /-- BIT 5,L (R170). -/
  | bit5L
  /-- BIT 5,(HL) (R171). -/
  | bit5AtHL
  /-- BIT 5,A (R170). -/
  | bit5A
  /-- BIT 6,B (R170). -/
  | bit6B
  /-- BIT 6,C (R170). -/
  | bit6C
  /-- BIT 6,D (R170). -/
  | bit6D
  /-- BIT 6,E (R170). -/
  | bit6E
  /-- BIT 6,H (R170). -/
  | bit6H
  /-- BIT 6,L (R170). -/
  | bit6L
  /-- BIT 6,(HL) (R171). -/
  | bit6AtHL
  /-- BIT 6,A (R170). -/
  | bit6A
  /-- BIT 7,B (R170). -/
  | bit7B
  /-- BIT 7,C (R170). -/
  | bit7C
  /-- BIT 7,D (R170). -/
  | bit7D
  /-- BIT 7,E (R170). -/
  | bit7E
  /-- BIT 7,H (R170). -/
  | bit7H
  /-- BIT 7,L (R170). -/
  | bit7L
  /-- BIT 7,(HL) (R171). -/
  | bit7AtHL
  /-- BIT 7,A (R170). -/
  | bit7A
  /-- RES 0,B (R172). -/
  | res0B
  /-- RES 0,C (R172). -/
  | res0C
  /-- RES 0,D (R172). -/
  | res0D
  /-- RES 0,E (R172). -/
  | res0E
  /-- RES 0,H (R172). -/
  | res0H
  /-- RES 0,L (R172). -/
  | res0L
  /-- RES 0,(HL) (R173). -/
  | res0AtHL
  /-- RES 0,A (R172). -/
  | res0A
  /-- RES 1,B (R172). -/
  | res1B
  /-- RES 1,C (R172). -/
  | res1C
  /-- RES 1,D (R172). -/
  | res1D
  /-- RES 1,E (R172). -/
  | res1E
  /-- RES 1,H (R172). -/
  | res1H
  /-- RES 1,L (R172). -/
  | res1L
  /-- RES 1,(HL) (R173). -/
  | res1AtHL
  /-- RES 1,A (R172). -/
  | res1A
  /-- RES 2,B (R172). -/
  | res2B
  /-- RES 2,C (R172). -/
  | res2C
  /-- RES 2,D (R172). -/
  | res2D
  /-- RES 2,E (R172). -/
  | res2E
  /-- RES 2,H (R172). -/
  | res2H
  /-- RES 2,L (R172). -/
  | res2L
  /-- RES 2,(HL) (R173). -/
  | res2AtHL
  /-- RES 2,A (R172). -/
  | res2A
  /-- RES 3,B (R172). -/
  | res3B
  /-- RES 3,C (R172). -/
  | res3C
  /-- RES 3,D (R172). -/
  | res3D
  /-- RES 3,E (R172). -/
  | res3E
  /-- RES 3,H (R172). -/
  | res3H
  /-- RES 3,L (R172). -/
  | res3L
  /-- RES 3,(HL) (R173). -/
  | res3AtHL
  /-- RES 3,A (R172). -/
  | res3A
  /-- RES 4,B (R172). -/
  | res4B
  /-- RES 4,C (R172). -/
  | res4C
  /-- RES 4,D (R172). -/
  | res4D
  /-- RES 4,E (R172). -/
  | res4E
  /-- RES 4,H (R172). -/
  | res4H
  /-- RES 4,L (R172). -/
  | res4L
  /-- RES 4,(HL) (R173). -/
  | res4AtHL
  /-- RES 4,A (R172). -/
  | res4A
  /-- RES 5,B (R172). -/
  | res5B
  /-- RES 5,C (R172). -/
  | res5C
  /-- RES 5,D (R172). -/
  | res5D
  /-- RES 5,E (R172). -/
  | res5E
  /-- RES 5,H (R172). -/
  | res5H
  /-- RES 5,L (R172). -/
  | res5L
  /-- RES 5,(HL) (R173). -/
  | res5AtHL
  /-- RES 5,A (R172). -/
  | res5A
  /-- RES 6,B (R172). -/
  | res6B
  /-- RES 6,C (R172). -/
  | res6C
  /-- RES 6,D (R172). -/
  | res6D
  /-- RES 6,E (R172). -/
  | res6E
  /-- RES 6,H (R172). -/
  | res6H
  /-- RES 6,L (R172). -/
  | res6L
  /-- RES 6,(HL) (R173). -/
  | res6AtHL
  /-- RES 6,A (R172). -/
  | res6A
  /-- RES 7,B (R172). -/
  | res7B
  /-- RES 7,C (R172). -/
  | res7C
  /-- RES 7,D (R172). -/
  | res7D
  /-- RES 7,E (R172). -/
  | res7E
  /-- RES 7,H (R172). -/
  | res7H
  /-- RES 7,L (R172). -/
  | res7L
  /-- RES 7,(HL) (R173). -/
  | res7AtHL
  /-- RES 7,A (R172). -/
  | res7A
  /-- SET 0,B (R174). -/
  | set0B
  /-- SET 0,C (R174). -/
  | set0C
  /-- SET 0,D (R174). -/
  | set0D
  /-- SET 0,E (R174). -/
  | set0E
  /-- SET 0,H (R174). -/
  | set0H
  /-- SET 0,L (R174). -/
  | set0L
  /-- SET 0,(HL) (R175). -/
  | set0AtHL
  /-- SET 0,A (R174). -/
  | set0A
  /-- SET 1,B (R174). -/
  | set1B
  /-- SET 1,C (R174). -/
  | set1C
  /-- SET 1,D (R174). -/
  | set1D
  /-- SET 1,E (R174). -/
  | set1E
  /-- SET 1,H (R174). -/
  | set1H
  /-- SET 1,L (R174). -/
  | set1L
  /-- SET 1,(HL) (R175). -/
  | set1AtHL
  /-- SET 1,A (R174). -/
  | set1A
  /-- SET 2,B (R174). -/
  | set2B
  /-- SET 2,C (R174). -/
  | set2C
  /-- SET 2,D (R174). -/
  | set2D
  /-- SET 2,E (R174). -/
  | set2E
  /-- SET 2,H (R174). -/
  | set2H
  /-- SET 2,L (R174). -/
  | set2L
  /-- SET 2,(HL) (R175). -/
  | set2AtHL
  /-- SET 2,A (R174). -/
  | set2A
  /-- SET 3,B (R174). -/
  | set3B
  /-- SET 3,C (R174). -/
  | set3C
  /-- SET 3,D (R174). -/
  | set3D
  /-- SET 3,E (R174). -/
  | set3E
  /-- SET 3,H (R174). -/
  | set3H
  /-- SET 3,L (R174). -/
  | set3L
  /-- SET 3,(HL) (R175). -/
  | set3AtHL
  /-- SET 3,A (R174). -/
  | set3A
  /-- SET 4,B (R174). -/
  | set4B
  /-- SET 4,C (R174). -/
  | set4C
  /-- SET 4,D (R174). -/
  | set4D
  /-- SET 4,E (R174). -/
  | set4E
  /-- SET 4,H (R174). -/
  | set4H
  /-- SET 4,L (R174). -/
  | set4L
  /-- SET 4,(HL) (R175). -/
  | set4AtHL
  /-- SET 4,A (R174). -/
  | set4A
  /-- SET 5,B (R174). -/
  | set5B
  /-- SET 5,C (R174). -/
  | set5C
  /-- SET 5,D (R174). -/
  | set5D
  /-- SET 5,E (R174). -/
  | set5E
  /-- SET 5,H (R174). -/
  | set5H
  /-- SET 5,L (R174). -/
  | set5L
  /-- SET 5,(HL) (R175). -/
  | set5AtHL
  /-- SET 5,A (R174). -/
  | set5A
  /-- SET 6,B (R174). -/
  | set6B
  /-- SET 6,C (R174). -/
  | set6C
  /-- SET 6,D (R174). -/
  | set6D
  /-- SET 6,E (R174). -/
  | set6E
  /-- SET 6,H (R174). -/
  | set6H
  /-- SET 6,L (R174). -/
  | set6L
  /-- SET 6,(HL) (R175). -/
  | set6AtHL
  /-- SET 6,A (R174). -/
  | set6A
  /-- SET 7,B (R174). -/
  | set7B
  /-- SET 7,C (R174). -/
  | set7C
  /-- SET 7,D (R174). -/
  | set7D
  /-- SET 7,E (R174). -/
  | set7E
  /-- SET 7,H (R174). -/
  | set7H
  /-- SET 7,L (R174). -/
  | set7L
  /-- SET 7,(HL) (R175). -/
  | set7AtHL
  /-- SET 7,A (R174). -/
  | set7A
deriving DecidableEq, Repr

end Sys2Proof
end

