-- ==== Sys2Proof/Machine/Cart.lean ====
section
/-! DEFINITION. The cartridge controller (20_memory.md R49 to R57): no banking and MBC1. -/

namespace Sys2Proof.Machine

/-- The type byte of a cartridge: `ROM[0x0147]`, 0 if the image is shorter (R49). -/
def cartTypeByte (rom : Image) : Byte := if rom.size ≤ 0x0147 then 0 else rom.read 0x0147

/-- The controller a type byte selects, `none` for an unknown one (R49). -/
def knownCartKind (t : Byte) : Option CartKind :=
  if t = 0x00 then some .noMbc
  else if t = 0x01 ∨ t = 0x02 ∨ t = 0x03 then some .mbc1
  else none

/-- The controller of a ROM image; an unknown type byte falls back to no banking (R49). -/
def cartKindOf (rom : Image) : CartKind := (knownCartKind (cartTypeByte rom)).getD .noMbc

/-- `rom_bank_eff` (R52). -/
def Cart.romBankEff (c : Cart) : Nat :=
  if c.bankMode then c.bankLo.toNat else c.bankHi.toNat * 32 + c.bankLo.toNat

/-- `ram_bank_eff` (R52). -/
def Cart.ramBankEff (c : Cart) : Nat := if c.bankMode then c.ramBank.toNat else 0

/-- The offset in the ROM that an address 0x0000..0x7FFF names (R50, R52, R66). -/
def Cart.romOffset (c : Cart) (a : Nat) : Nat :=
  match c.kind with
  | .noMbc => a % c.rom.size
  | .mbc1 => if a ≤ 0x3FFF then a % c.rom.size else (c.romBankEff * 0x4000 + (a - 0x4000)) % c.rom.size

/-- The offset in the external RAM that an address 0xA000..0xBFFF names (R52, R57, R66). -/
def Cart.ramOffset (c : Cart) (a : Nat) : Nat := (c.ramBankEff * 0x2000 + (a - 0xA000)) % c.eram.size

/-- Whether the external RAM answers: MBC1, enabled and present (R50, R52). -/
def Cart.ramOpen (c : Cart) : Bool := c.kind == .mbc1 && c.ramEnable && c.eram.size != 0

/-- `CartRead` (R50, R52), for addresses 0x0000..0x7FFF and 0xA000..0xBFFF. -/
def Cart.read (c : Cart) (a : Nat) : Byte :=
  if a ≤ 0x7FFF then c.rom.read (c.romOffset a)
  else if c.ramOpen then c.eram.read (c.ramOffset a)
  else 0xFF

/-- `CartWrite` on an MBC1 cartridge (R53 to R57). -/
def Cart.writeMbc1 (c : Cart) (a : Nat) (v : Byte) : Cart :=
  if a ≤ 0x1FFF then { c with ramEnable := v.toNat % 16 == 0xA }
  else if a ≤ 0x3FFF then { c with bankLo := if v.setWidth 5 = 0 then 1 else v.setWidth 5 }
  else if a ≤ 0x5FFF then
    if c.bankMode then { c with ramBank := v.setWidth 2 } else { c with bankHi := v.setWidth 2 }
  else if a ≤ 0x7FFF then { c with bankMode := v.getLsbD 0 }
  else if c.ramOpen then { c with eram := c.eram.write (c.ramOffset a) v }
  else c

/-- `CartWrite` (R51, R53 to R57): without a controller every write is ignored. -/
def Cart.write (c : Cart) (a : Nat) (v : Byte) : Cart :=
  match c.kind with
  | .noMbc => c
  | .mbc1 => c.writeMbc1 a v

end Sys2Proof.Machine
end

