-- ==== Sys2Proof/Machine/Bus.lean ====
section
/-! DEFINITION. The memory bus (20_memory.md R43 to R72): one total read without side effects, one
total write with the side effects of R47. Every fetch, load, store, push, pop and DMA goes through it. -/

namespace Sys2Proof.Machine

/-- The raw byte `mem[a]` of the backing array (R27), which the timer and the PPU reach directly. -/
def State.raw (s : State) (a : Word) : Byte := s.mem.read a.toNat

/-- `mem[a] <- v`, with no side effect. -/
def State.setRaw (s : State) (a : Word) (v : Byte) : State := { s with mem := s.mem.write a.toNat v }

/-- Whether the boot overlay covers the address (R48, D15): active, and inside the first
`min(len(BOOT_IMAGE), 0x100)` bytes. -/
def State.overlaid (s : State) (a : Word) : Bool :=
  s.bootActive && decide (a.toNat < min s.boot.size 0x100)

/-- Whether the address belongs to the cartridge (R44): 0x0000..0x7FFF or 0xA000..0xBFFF. -/
def inCartWindow (a : Word) : Bool :=
  decide (a.toNat ≤ 0x7FFF) || (decide (0xA000 ≤ a.toNat) && decide (a.toNat ≤ 0xBFFF))

/-- The low nibble of the joypad byte (R58): active low, the selected groups ANDed. -/
def joypLow (select : BitVec 2) (buttons : Byte) : BitVec 4 :=
  (if select.getLsbD 0 then 0xF else ~~~ buttons.extractLsb' 0 4) &&&
    (if select.getLsbD 1 then 0xF else ~~~ buttons.extractLsb' 4 4)

/-- `JoypRead()` (R58): bits 7..6 read 1, bits 5..4 the selection, bits 3..0 the buttons. -/
def joypRead (select : BitVec 2) (buttons : Byte) : Byte := 0b11#2 ++ select ++ joypLow select buttons

/-- `MemRead(a, 1)` (R46). -/
def State.busRead (s : State) (a : Word) : Byte :=
  if s.overlaid a then s.boot.read a.toNat
  else if inCartWindow a then s.cart.read a.toNat
  else if a = ioJoyp then joypRead s.joypSelect s.buttons
  else s.raw a

/-- `SerialEmit` (R59): one byte to the host's serial sink. -/
def State.serialEmit (s : State) (v : Byte) : State :=
  { s with out := { s.out with serial := s.out.serial ++ [v] } }

/-- `MemWrite(a, 1, v)` (R47) without the copy that a store to 0xFF46 starts: the writes of the copy
itself, which go to OAM and never start another one (R227). -/
def State.busWriteNoDma (s : State) (a : Word) (v : Byte) : State :=
  if s.overlaid a then s
  else if inCartWindow a then { s with cart := s.cart.write a.toNat v }
  else if a = ioJoyp then { s with joypSelect := v.extractLsb' 4 2 }
  else if a = ioSc then
    if v = serialStart then (s.setRaw a v).serialEmit (s.raw ioSb) else s.setRaw a v
  else if a = ioDiv ∧ s.cfg.divWriteReset = true then s.setRaw a 0
  else if a = ioBoot then { s.setRaw a v with bootActive := s.bootActive && v == 0 }
  else s.setRaw a v

/-- Byte `i` of the copy of R60: `MemWrite(0xFE00 + i, 1, MemRead((page << 8) + i, 1))`. -/
def State.dmaCopy (page : Byte) (s : State) (i : Nat) : State :=
  s.busWriteNoDma (BitVec.ofNat 16 (oamBase + i)) (s.busRead (concat page 0 + BitVec.ofNat 16 i))

/-- `OamDma(page)` (R60): 160 bytes, ascending. -/
def State.oamDma (s : State) (page : Byte) : State :=
  (List.range dmaLength).foldl (State.dmaCopy page) s

/-- `MemWrite(a, 1, v)` (R47). The address 0xFF46 is neither under the overlay nor in the cartridge
window, so the order of the tests is R47's. -/
def State.busWrite (s : State) (a : Word) (v : Byte) : State :=
  if a = ioDma then (s.setRaw a v).oamDma v else s.busWriteNoDma a v

/-- `MemRead(a, 2)` (R11): low byte at the lower address. -/
def State.busRead16 (s : State) (a : Word) : Word := concat (s.busRead (a + 1)) (s.busRead a)

/-- `MemWrite(a, 2, v)` (R11): the low byte at the lower address, written first. -/
def State.busWrite16 (s : State) (a : Word) (v : Word) : State :=
  (s.busWrite a (loByte v)).busWrite (a + 1) (hiByte v)

/-- Puts a byte where `busRead` at the address finds it, as the host does when it supplies an image
(R233): into the boot image, the ROM, the open external RAM or the backing array. No instruction does
this. The joypad register and a closed external RAM hold no byte and stay as they are. -/
def State.placeByte (s : State) (a : Word) (v : Byte) : State :=
  if s.overlaid a then { s with boot := s.boot.write a.toNat v }
  else if a.toNat ≤ 0x7FFF then
    { s with cart := { s.cart with rom := s.cart.rom.write (s.cart.romOffset a.toNat) v } }
  else if inCartWindow a then
    if s.cart.ramOpen then
      { s with cart := { s.cart with eram := s.cart.eram.write (s.cart.ramOffset a.toNat) v } }
    else s
  else if a = ioJoyp then s
  else s.setRaw a v

end Sys2Proof.Machine
end

