-- ==== Sys2Proof/Machine/Flags.lean ====
section
/-! DEFINITION. The flag byte (R20) and every result and flag computation of the ALU (42_alu8.md R113,
43_alu16.md R143 and R146, 44_rotate_shift.md R149 to R168, 47_cpu_control.md R194). As R9 says, sums
and differences are computed exactly and then reduced. -/

namespace Sys2Proof.Machine

/-- The byte F of four flags: Z bit 7, N bit 6, H bit 5, C bit 4, bits 3..0 zero (R14, R20). -/
def flagByte (z n h c : Bool) : Byte :=
  BitVec.ofBool z ++ BitVec.ofBool n ++ BitVec.ofBool h ++ BitVec.ofBool c ++ 0#4

/-- A byte written to F: its bits 3..0 are dropped (R19, R20). -/
def maskF (v : Byte) : Byte := v &&& 0xF0

/-- The Z flag (R20). -/
def State.flagZ (s : State) : Bool := s.regs.f.getLsbD 7
/-- The N flag (R20). -/
def State.flagN (s : State) : Bool := s.regs.f.getLsbD 6
/-- The H flag (R20). -/
def State.flagH (s : State) : Bool := s.regs.f.getLsbD 5
/-- The C flag (R20). -/
def State.flagC (s : State) : Bool := s.regs.f.getLsbD 4

/-- `flags(Z, N, H, C)` (R14). A flag the rule writes `-` is given its old value. -/
def State.flags (s : State) (z n h c : Bool) : State :=
  { s with regs := { s.regs with f := flagByte z n h c } }

/-- A result byte and the four flags of an operation. -/
structure AluOut where
  r : Byte
  z : Bool
  n : Bool
  h : Bool
  c : Bool
deriving DecidableEq, Repr

/-- `add8` (R113). -/
def add8 (a b : Byte) (cin : Bool) : AluOut :=
  let s := a.toNat + b.toNat + cin.toNat
  { r := BitVec.ofNat 8 s
    z := BitVec.ofNat 8 s == 0
    n := false
    h := decide (a.toNat % 16 + b.toNat % 16 + cin.toNat > 0xF)
    c := decide (s > 0xFF) }

/-- `sub8` (R113). -/
def sub8 (a b : Byte) (cin : Bool) : AluOut :=
  let s : Int := (a.toNat : Int) - (b.toNat : Int) - (cin.toNat : Int)
  { r := BitVec.ofInt 8 s
    z := BitVec.ofInt 8 s == 0
    n := true
    h := decide (a.toNat % 16 < b.toNat % 16 + cin.toNat)
    c := decide (a.toNat < b.toNat + cin.toNat) }

/-- `and8` (R113). -/
def and8 (a b : Byte) : AluOut := ⟨a &&& b, a &&& b == 0, false, true, false⟩

/-- `xor8` (R113). -/
def xor8 (a b : Byte) : AluOut := ⟨a ^^^ b, a ^^^ b == 0, false, false, false⟩

/-- `or8` (R113). -/
def or8 (a b : Byte) : AluOut := ⟨a ||| b, a ||| b == 0, false, false, false⟩

/-- The function of an ALU operation on A, an operand and the carry flag (R113 to R137). -/
def aluOut (op : AluOp) (a b : Byte) (carry : Bool) : AluOut :=
  match op with
  | .add => add8 a b false
  | .adc => add8 a b carry
  | .sub => sub8 a b false
  | .sbc => sub8 a b carry
  | .and => and8 a b
  | .xor => xor8 a b
  | .or => or8 a b
  | .cp => sub8 a b false

/-- Whether the operation writes its result to A: all but CP (R135). -/
def aluWritesA (op : AluOp) : Bool := op != .cp

/-- INC (R138), its C unchanged: result, Z, N = 0 and H of `v + 1`. -/
def inc8Out (v : Byte) (carry : Bool) : AluOut :=
  ⟨v + 1, v + 1 == 0, false, decide (v.toNat % 16 = 0xF), carry⟩

/-- DEC (R140), its C unchanged: result, Z, N = 1 and H of `v - 1`. -/
def dec8Out (v : Byte) (carry : Bool) : AluOut :=
  ⟨v - 1, v - 1 == 0, true, decide (v.toNat % 16 = 0x0), carry⟩

/-- H and C of `ADD HL,rr` (R143): the carries out of bits 11 and 15. -/
def add16H (x y : Word) : Bool := decide (x.toNat % 0x1000 + y.toNat % 0x1000 > 0x0FFF)
/-- See `add16H`. -/
def add16C (x y : Word) : Bool := decide (x.toNat + y.toNat > 0xFFFF)

/-- The result of `spadd` (R146). -/
def spAdd (sp : Word) (e : Byte) : Word := sp + sext16 e
/-- H of `spadd` (R146): the carry out of bit 3 of the unsigned sum of the low bytes. -/
def spAddH (sp : Word) (e : Byte) : Bool := decide (sp.toNat % 16 + e.toNat % 16 > 0x0F)
/-- C of `spadd` (R146): the carry out of bit 7 of the unsigned sum of the low bytes. -/
def spAddC (sp : Word) (e : Byte) : Bool := decide (sp.toNat % 256 + e.toNat > 0xFF)

/-- A rotate or shift result with its carry and the flags of the CB page (R153): Z of the result,
N = H = 0. -/
def rotFlags (r : Byte) (c : Bool) : AluOut := ⟨r, r == 0, false, false, c⟩

/-- A carry as the byte that enters at bit 0. -/
def carryLow (c : Bool) : Byte := BitVec.setWidth 8 (BitVec.ofBool c)
/-- A carry as the byte that enters at bit 7. -/
def carryHigh (c : Bool) : Byte := carryLow c <<< 7

/-- The function of a rotate or shift on a byte and the carry flag (R149 to R168). -/
def rotOut (op : RotOp) (v : Byte) (carry : Bool) : AluOut :=
  let b7 := v.getLsbD 7
  let b0 := v.getLsbD 0
  match op with
  | .rlc => rotFlags ((v <<< 1) ||| carryLow b7) b7
  | .rrc => rotFlags ((v >>> 1) ||| carryHigh b0) b0
  | .rl => rotFlags ((v <<< 1) ||| carryLow carry) b7
  | .rr => rotFlags ((v >>> 1) ||| carryHigh carry) b0
  | .sla => rotFlags (v <<< 1) b7
  | .sra => rotFlags ((v >>> 1) ||| (v &&& 0x80)) b0
  | .swap => rotFlags (((v &&& 0x0F) <<< 4) ||| (v >>> 4)) false
  | .srl => rotFlags (v >>> 1) b0

/-- The addition path of DAA (R194), N = 0: the adjustment of A. -/
def daaAddAdjust (a : Byte) (h c : Bool) : Nat :=
  (if c || decide (a.toNat > 0x99) then 0x60 else 0) +
    (if h || decide (a.toNat % 16 > 0x09) then 0x06 else 0)

/-- The subtraction path of DAA (R194), N = 1: what is taken from A. -/
def daaSubAdjust (h c : Bool) : Nat := (if c then 0x60 else 0) + (if h then 0x06 else 0)

/-- DAA (R194): the result and the flags, N unchanged, H = 0. The test on the low nibble is made on A
itself, which the 0x60 adjustment does not change (R194, corner cases). -/
def daaOut (a : Byte) (n h c : Bool) : AluOut :=
  let r : Byte :=
    if n then BitVec.ofInt 8 ((a.toNat : Int) - (daaSubAdjust h c : Int))
    else BitVec.ofNat 8 (a.toNat + daaAddAdjust a h c)
  ⟨r, r == 0, n, false, if n then c else c || decide (a.toNat > 0x99)⟩

end Sys2Proof.Machine
end

