-- ==== Sys2Proof/Machine/Operands.lean ====
section
/-! DEFINITION. Every operand form of the instruction set: the registers and register pairs of the
encoded fields (R75 to R78), the conditions (R176), and the addresses of memory operands (R79). -/

namespace Sys2Proof.Machine

/-- An 8-bit register of the `r8` field (R75). -/
def Regs.get (g : Regs) : R8 → Byte
  | .b => g.b
  | .c => g.c
  | .d => g.d
  | .e => g.e
  | .h => g.h
  | .l => g.l
  | .a => g.a

/-- The registers with one 8-bit register written (R75). -/
def Regs.put (g : Regs) (r : R8) (v : Byte) : Regs :=
  match r with
  | .b => { g with b := v }
  | .c => { g with c := v }
  | .d => { g with d := v }
  | .e => { g with e := v }
  | .h => { g with h := v }
  | .l => { g with l := v }
  | .a => { g with a := v }

/-- A register pair or SP of the `r16` field (R18, R76). -/
def Regs.get16 (g : Regs) : R16 → Word
  | .bc => concat g.b g.c
  | .de => concat g.d g.e
  | .hl => concat g.h g.l
  | .sp => g.sp

/-- The registers with a pair or SP written: the high byte goes to the high register (R18, R76). -/
def Regs.put16 (g : Regs) (rr : R16) (v : Word) : Regs :=
  match rr with
  | .bc => { g with b := hiByte v, c := loByte v }
  | .de => { g with d := hiByte v, e := loByte v }
  | .hl => { g with h := hiByte v, l := loByte v }
  | .sp => { g with sp := v }

/-- A register pair of the `r16stk` field (R18, R19, R77). -/
def Regs.getStk (g : Regs) : R16Stk → Word
  | .bc => concat g.b g.c
  | .de => concat g.d g.e
  | .hl => concat g.h g.l
  | .af => concat g.a g.f

/-- The registers with a pair of the `r16stk` field written; AF drops bits 3..0 of F (R19, R112). -/
def Regs.putStk (g : Regs) (rr : R16Stk) (v : Word) : Regs :=
  match rr with
  | .bc => { g with b := hiByte v, c := loByte v }
  | .de => { g with d := hiByte v, e := loByte v }
  | .hl => { g with h := hiByte v, l := loByte v }
  | .af => { g with a := hiByte v, f := maskF (loByte v) }

/-- `x[r]` (R10). -/
def State.r8 (s : State) (r : R8) : Byte := s.regs.get r
/-- `x[r] <- v` (R10). -/
def State.setR8 (s : State) (r : R8) (v : Byte) : State := { s with regs := s.regs.put r v }
/-- `x[rr]` (R10). -/
def State.r16 (s : State) (rr : R16) : Word := s.regs.get16 rr
/-- `x[rr] <- v` (R10). -/
def State.setR16 (s : State) (rr : R16) (v : Word) : State := { s with regs := s.regs.put16 rr v }
/-- `PC <- v` (R10). -/
def State.setPc (s : State) (v : Word) : State := { s with regs := { s.regs with pc := v } }
/-- `SP <- v` (R10). -/
def State.setSp (s : State) (v : Word) : State := { s with regs := { s.regs with sp := v } }
/-- HL (R18). -/
def State.hl (s : State) : Word := s.r16 .hl
/-- `HL <- v` (R18). -/
def State.setHl (s : State) (v : Word) : State := s.setR16 .hl v

/-- The byte at HL (R75, the value 6 of `r8`). -/
def State.atHL (s : State) : Byte := s.busRead s.hl
/-- `MemWrite(HL, 1, v)`. -/
def State.setAtHL (s : State) (v : Byte) : State := s.busWrite s.hl v

/-- The condition function (R176). -/
def State.cond (s : State) : Cond → Bool
  | .nz => !s.flagZ
  | .z => s.flagZ
  | .nc => !s.flagC
  | .c => s.flagC

/-- Writes the flags of an operation (R14). -/
def State.setFlags (s : State) (o : AluOut) : State := s.flags o.z o.n o.h o.c

end Sys2Proof.Machine
end

