-- ==== Sys2Proof/Machine/Ops.lean ====
section
/-! DEFINITION. The named operations the meanings and the step share: the cost of an instruction (R16),
the fetch (R12), the stack (R13), taking an interrupt (R203 to R210) and returning from one (R186). -/

namespace Sys2Proof.Machine

/-- The step's cost (R16). -/
def State.cost (s : State) (c : Nat) : State := { s with cycles := c }

/-- The end of a meaning: the next state, with the cost of the instruction (R16). -/
def done (c : Nat) (s : State) : Host.Outcome State Fault Refusal := .next (s.cost c)

/-- `push16(v)` (R13, D44): high byte at SP - 1 first, then low byte at SP - 2. -/
def State.push16 (s : State) (v : Word) : State :=
  let s1 := (s.setSp (s.regs.sp - 1)).busWrite (s.regs.sp - 1) (hiByte v)
  (s1.setSp (s1.regs.sp - 1)).busWrite (s1.regs.sp - 1) (loByte v)

/-- The value `pop16()` returns (R13): low byte at SP, high byte at SP + 1. -/
def State.stackTop (s : State) : Word := s.busRead16 s.regs.sp

/-- The stack pointer after `pop16()` (R13). -/
def State.dropTop (s : State) : State := s.setSp (s.regs.sp + 2)

/-- The instruction at PC (R12, R79). Its bytes are read through the bus, as `fetch8` reads them; a read
has no side effect (R46), so the bytes after a shorter instruction may be read too. -/
def State.fetchInstr (s : State) : Instr :=
  decode3 (s.busRead s.regs.pc) (s.busRead (s.regs.pc + 1)) (s.busRead (s.regs.pc + 2))

/-- The state with PC past the whole instruction at PC (R24, R79, R84). -/
def State.afterFetch (s : State) : State :=
  s.setPc (s.regs.pc + BitVec.ofNat 16 (lengthOf (s.busRead s.regs.pc)))

/-- The request and enable bit of a source (R206). -/
def Interrupt.bit : Interrupt → Nat
  | .vblank => 0
  | .lcdStat => 1
  | .timer => 2
  | .serial => 3
  | .joypad => 4

/-- The vector of a source (R206). -/
def Interrupt.vector : Interrupt → Word
  | .vblank => 0x0040
  | .lcdStat => 0x0048
  | .timer => 0x0050
  | .serial => 0x0058
  | .joypad => 0x0060

/-- `pending()` (R203): IE and IF and 0x1F. -/
def State.pending (s : State) : Byte := s.raw ioIe &&& s.raw ioIf &&& 0x1F

/-- The source of the lowest set bit of a byte of requests (R204 (d), R209). -/
def lowestRequest (p : Byte) : Option Interrupt :=
  if p.getLsbD 0 then some .vblank
  else if p.getLsbD 1 then some .lcdStat
  else if p.getLsbD 2 then some .timer
  else if p.getLsbD 3 then some .serial
  else if p.getLsbD 4 then some .joypad
  else none

/-- The request bit of a source ORed into IF (R207): how the timer and the PPU request. -/
def State.request (s : State) (i : Interrupt) : State :=
  s.setRaw ioIf (s.raw ioIf ||| bitMask i.bit)

/-- Taking an interrupt (R204 (d), R210), in order: the request bit cleared in IF without a bus write,
IME and the pending enable cleared, PC pushed, PC at the vector, cost `C_IRQ`. Nothing else is saved. -/
def State.takeInterrupt (s : State) (i : Interrupt) : State :=
  let s1 := { s.setRaw ioIf (s.raw ioIf &&& ~~~ bitMask i.bit) with ime := false, imePending := false }
  ((s1.push16 s1.regs.pc).setPc i.vector).cost cIrq

/-- Return to the popped address (R184). -/
def State.returnToTop (s : State) : State := s.dropTop.setPc s.stackTop

/-- Return from an interrupt (R186, D9): PC popped and IME 1 at once, the pending enable unchanged. -/
def State.returnFromInterrupt (s : State) : State := { s.returnToTop with ime := true }

/-- `Diagnostic(d)` (R15): appended to the host's diagnostics channel. -/
def State.diagnose (s : State) (d : Diagnostic) : State :=
  { s with out := { s.out with diagnostics := s.out.diagnostics ++ [d] } }

end Sys2Proof.Machine
end

