-- ==== Sys2Proof/Machine/Timer.lean ====
section
/-! DEFINITION. The timer (60_exceptions.md R214, R215). DIV, TIMA, TMA and TAC are bytes of the backing
array; the timer reaches them without the bus. -/

namespace Sys2Proof.Machine

/-- One period of the divider (R214): DIV + 1 modulo 256. -/
def State.divTick (s : State) : State := s.setRaw ioDiv (s.raw ioDiv + 1)

/-- One period of the counter (R214): TIMA + 1, or, at 0xFF, TIMA reloaded from TMA and the timer
interrupt requested at once (D24). -/
def State.timaTick (s : State) : State :=
  if s.raw ioTima = 0xFF then (s.setRaw ioTima (s.raw ioTma)).request .timer
  else s.setRaw ioTima (s.raw ioTima + 1)

/-- A tick taken `n` times: the loops of R214 and R217, which run once for every complete period. -/
def repeatTick (tick : State → State) : Nat → State → State
  | 0, s => s
  | n + 1, s => repeatTick tick n (tick s)

/-- The divider's part of `Timer.advance(c)` (R214): `(div_acc + c) / 256` ticks, the rest kept. -/
def State.divAdvance (s : State) (c : Nat) : State :=
  let total := s.timer.divAcc + c
  let s1 := repeatTick State.divTick (total / divPeriod) s
  { s1 with timer := { s1.timer with divAcc := total % divPeriod } }

/-- Whether TAC enables the counter (R214). -/
def State.timerEnabled (s : State) : Bool := (s.raw ioTac).getLsbD 2

/-- The counter's part of `Timer.advance(c)` (R214): while TAC enables it, one tick per complete period,
the rest kept; else the accumulator is frozen. -/
def State.timaAdvance (s : State) (c : Nat) : State :=
  if s.timerEnabled then
    let period := timerPeriod (s.raw ioTac)
    let total := s.timer.timaAcc + c
    let s1 := repeatTick State.timaTick (total / period) s
    { s1 with timer := { s1.timer with timaAcc := total % period } }
  else s

/-- `Timer.advance(c)` (R214). -/
def State.timerAdvance (s : State) (c : Nat) : State := (s.divAdvance c).timaAdvance c

end Sys2Proof.Machine
end

