-- ==== Sys2Proof/Machine/Ppu.lean ====
section
/-! DEFINITION. The PPU's scanline state machine (60_exceptions.md R216 to R219, R224). It reaches its
registers in the backing array without the bus. LCDC bit 7 has no effect (R217). -/

namespace Sys2Proof.Machine

/-- The encoding of the mode in STAT bits 1..0 (R35, D34). -/
def PpuMode.bits : PpuMode → BitVec 2
  | .hblank => 0
  | .vblank => 1
  | .oamSearch => 2
  | .pixelTransfer => 3

/-- The mode function (R216). -/
def ppuModeAt (ly dot : Nat) : PpuMode :=
  if visibleLines ≤ ly then .vblank
  else if dot < 80 then .oamSearch
  else if dot < 252 then .pixelTransfer
  else .hblank

/-- `FB[ly] <- render_line(ly)` for a visible line (R217, R220). -/
def State.renderCurrentLine (s : State) : State :=
  if s.ppu.ly < visibleLines then
    { s with ppu := { s.ppu with fb := s.ppu.fb.setIfInBounds s.ppu.ly (s.mem.renderLine s.ppu.ly) } }
  else s

/-- The scanline index moves on, wrapping at 154 (R217). -/
def State.nextLine (s : State) : State :=
  { s with ppu := { s.ppu with ly := (s.ppu.ly + 1) % linesPerFrame } }

/-- The `FrameReady` event (R224). -/
def State.frameReady (s : State) : State := { s with out := { s.out with frames := s.out.frames + 1 } }

/-- Entering line 144 requests V-Blank and makes the frame ready (R218, R224). -/
def State.enterLine (s : State) : State :=
  if s.ppu.ly = visibleLines then (s.request .vblank).frameReady else s

/-- A scanline's worth of dots has elapsed (R217): a visible line is rendered and the index moves on. -/
def State.finishLine (s : State) : State := s.renderCurrentLine.nextLine.enterLine

/-- STAT with the coincidence flag in bit 2 and the mode in bits 1..0, bits 7..3 kept (R217). -/
def statByte (stat : Byte) (coincidence : Bool) (mode : PpuMode) : Byte :=
  stat.extractLsb' 3 5 ++ BitVec.ofBool coincidence ++ mode.bits

/-- Whether LY equals LYC (R219). -/
def State.coincidence (s : State) : Bool := decide (s.ppu.ly = (s.raw ioLyc).toNat)

/-- `mode <- mode(ly, dot)` (R217). -/
def State.updateMode (s : State) : State :=
  { s with ppu := { s.ppu with mode := ppuModeAt s.ppu.ly s.ppu.dot } }

/-- `mem[0xFF44] <- ly` (R217). -/
def State.publishLy (s : State) : State := s.setRaw ioLy (BitVec.ofNat 8 s.ppu.ly)

/-- The coincidence flag and the mode put into STAT (R217). -/
def State.publishStat (s : State) : State :=
  s.setRaw ioStat (statByte (s.raw ioStat) s.coincidence s.ppu.mode)

/-- The STAT request, level-triggered (R217, R219). -/
def State.requestStat (s : State) : State :=
  if s.coincidence && (s.raw ioStat).getLsbD 6 then s.request .lcdStat else s

/-- The end of `PPU.advance` (R217, R219): the mode, then LY, then STAT, then the STAT request. -/
def State.ppuPublish (s : State) : State := s.updateMode.publishLy.publishStat.requestStat

/-- `PPU.advance(c)` (R217): one `finishLine` per complete scanline, the rest of the dots kept. -/
def State.ppuAdvance (s : State) (c : Nat) : State :=
  let total := s.ppu.dot + c
  let s1 := repeatTick State.finishLine (total / dotsPerLine) s
  State.ppuPublish { s1 with ppu := { s1.ppu with dot := total % dotsPerLine } }

end Sys2Proof.Machine
end

