-- ==== Sys2Proof/Machine/CpuStep.lean ====
section
/-! DEFINITION. The parts of the CPU step and of the machine step around the instruction (60_exceptions.md
R204, R229, R232). `Machine/Step.lean` puts them together with `exec`. -/

namespace Sys2Proof.Machine

/-- IME <- 1 and the pending enable cleared (R204). -/
def State.commitEnable (s : State) : State := { s with ime := true, imePending := false }

/-- Branch (a) of R204: under StepStart a pending enable is committed before anything else. -/
def State.commitAtStart (s : State) : State :=
  if s.cfg.eiCommit = .stepStart ∧ s.imePending = true then s.commitEnable else s

/-- The waking half of branch (c) of R204: Halted is left when an enabled request is pending, whatever
IME is. -/
def State.wake (s : State) : State :=
  if s.run = .halted ∧ s.pending ≠ 0 then { s with run := .running } else s

/-- What a step does before its one branch: (a), then the waking half of (c) (R204, conflict C6). -/
def State.prelude (s : State) : State := s.commitAtStart.wake

/-- The branch a step ends in (R204, conflict C6): waiting at a cost, one interrupt, one instruction. -/
inductive StepKind where
  | wait (cost : Nat)
  | interrupt (i : Interrupt)
  | execute
deriving DecidableEq, Repr

/-- The source dispatched by branch (d) of R204: IME is 1 and the source is the lowest pending one. -/
def State.dispatched (s : State) : Option Interrupt := if s.ime then lowestRequest s.pending else none

/-- The branch of a state after its prelude (R204). -/
def State.stepKind (s : State) : StepKind :=
  match s.run with
  | .locked => .wait cStop
  | .stopped => .wait cStop
  | .halted => .wait cHalt
  | .running =>
    match s.dispatched with
    | some i => .interrupt i
    | none => .execute

/-- The end of branch (e) of R204: under AfterNextInstruction an enable that was pending before the
fetch and still is takes effect. -/
def State.commitAfter (before after : State) : State :=
  if after.cfg.eiCommit = .afterNextInstruction ∧ before.imePending = true ∧ after.imePending = true then
    after.commitEnable
  else after

/-- `total_cycles <- total_cycles + c` (R232). -/
def State.countCycles (s : State) : State :=
  { s with out := { s.out with totalCycles := s.out.totalCycles + s.cycles } }

/-- The part of the machine step after the CPU step (R232): the timer, then the PPU, advance by the
cycles the CPU step returned, and the cycle counter counts them. -/
def State.advanceDevices (s : State) : State :=
  ((s.timerAdvance s.cycles).ppuAdvance s.cycles).countCycles

/-- The trace tuple of a step that reached branch (e) (R229): `before` is the state at the fetch. -/
def State.traceStep (before after : State) : State :=
  if after.cfg.traceEnabled then
    { after with out := { after.out with trace := after.out.trace ++
        [⟨before.regs.pc, before.busRead before.regs.pc, after.cycles, after.out.totalCycles⟩] } }
  else after

/-- A step that runs no instruction and takes no interrupt (R204 (b), (c)): its cost, then the devices. -/
def State.finishWait (s : State) (cost : Nat) : State := (s.cost cost).advanceDevices

/-- A step that takes an interrupt (R204 (d)), then the devices. -/
def State.finishInterrupt (s : State) (i : Interrupt) : State := (s.takeInterrupt i).advanceDevices

/-- What a step does after its instruction (R204 (e), R232): `before` is the state at the fetch, `after`
the one the instruction left. -/
def State.finishInstr (before after : State) : State :=
  before.traceStep (before.commitAfter after).advanceDevices

/-- The state with the bytes placed at PC and after it (`placeByte`), and, where the next step would not
fetch (not Running, or an interrupt to dispatch), Running and with IME and the pending enable cleared, so
that it does. -/
def State.placeProgram (s : State) (bytes : List Byte) : State :=
  let s1 := (s.placeByte s.regs.pc (bytes.getD 0 0)).placeByte (s.regs.pc + 1) (bytes.getD 1 0)
  let s2 := s1.placeByte (s.regs.pc + 2) (bytes.getD 2 0)
  if s2.prelude.stepKind = .execute then s2 else { s2 with run := .running, ime := false, imePending := false }

end Sys2Proof.Machine
end

