-- ==== Sys2Proof/Machine/Alu16.lean ====
section
/-! DEFINITION. The 16-bit arithmetic instructions (43_alu16.md R143 to R147). -/

namespace Sys2Proof.Machine

/-- ADD HL,rr (R143): Z unchanged, N = 0, H and C the carries out of bits 11 and 15; 8 cycles. -/
def addToHL (rr : R16) (s : State) : Host.Outcome State Fault Refusal :=
  let x := s.hl
  let y := s.r16 rr
  done 8 ((s.setHl (x + y)).flags s.flagZ false (add16H x y) (add16C x y))

/-- INC rr (R144): no flag; 8 cycles. -/
def incPair (rr : R16) (s : State) : Host.Outcome State Fault Refusal := done 8 (s.setR16 rr (s.r16 rr + 1))

/-- DEC rr (R145): no flag; 8 cycles. -/
def decPair (rr : R16) (s : State) : Host.Outcome State Fault Refusal := done 8 (s.setR16 rr (s.r16 rr - 1))

/-- INC BC (R144). -/
@[reducible] def execIncBC (s : State) : Host.Outcome State Fault Refusal := incPair .bc s

/-- ADD HL,BC (R143). -/
@[reducible] def execAddHLBC (s : State) : Host.Outcome State Fault Refusal := addToHL .bc s

/-- DEC BC (R145). -/
@[reducible] def execDecBC (s : State) : Host.Outcome State Fault Refusal := decPair .bc s

/-- INC DE (R144). -/
@[reducible] def execIncDE (s : State) : Host.Outcome State Fault Refusal := incPair .de s

/-- ADD HL,DE (R143). -/
@[reducible] def execAddHLDE (s : State) : Host.Outcome State Fault Refusal := addToHL .de s

/-- DEC DE (R145). -/
@[reducible] def execDecDE (s : State) : Host.Outcome State Fault Refusal := decPair .de s

/-- INC HL (R144). -/
@[reducible] def execIncHL (s : State) : Host.Outcome State Fault Refusal := incPair .hl s

/-- ADD HL,HL (R143). -/
@[reducible] def execAddHLHL (s : State) : Host.Outcome State Fault Refusal := addToHL .hl s

/-- DEC HL (R145). -/
@[reducible] def execDecHL (s : State) : Host.Outcome State Fault Refusal := decPair .hl s

/-- INC SP (R144). -/
@[reducible] def execIncSP (s : State) : Host.Outcome State Fault Refusal := incPair .sp s

/-- ADD HL,SP (R143). -/
@[reducible] def execAddHLSP (s : State) : Host.Outcome State Fault Refusal := addToHL .sp s

/-- DEC SP (R145). -/
@[reducible] def execDecSP (s : State) : Host.Outcome State Fault Refusal := decPair .sp s

/-- ADD SP,e8 (R147). -/
@[reducible] def execAddSPE8 (e : Byte) (s : State) : Host.Outcome State Fault Refusal :=
  done 16 ((s.setSp (spAdd s.regs.sp e)).flags false false (spAddH s.regs.sp e) (spAddC s.regs.sp e))

end Sys2Proof.Machine
end

