-- ==== Sys2Proof/Machine/Alu8.lean ====
section
/-! DEFINITION. The 8-bit arithmetic and logic instructions (42_alu8.md R114 to R141). -/

namespace Sys2Proof.Machine

/-- The operand `b` combined with A: the result goes to A (not for CP) and all four flags are written
(R113 to R137). -/
def State.aluWith (s : State) (op : AluOp) (b : Byte) : State :=
  let o := aluOut op s.regs.a b s.flagC
  (if aluWritesA op then s.setR8 .a o.r else s).setFlags o

/-- The register forms, 4 cycles (R114, R117, R120, R123, R126, R129, R132, R135). -/
def aluReg (op : AluOp) (r : R8) (s : State) : Host.Outcome State Fault Refusal :=
  done 4 (s.aluWith op (s.r8 r))

/-- The (HL) forms, 8 cycles (R115, R118, R121, R124, R127, R130, R133, R136). -/
def aluMem (op : AluOp) (s : State) : Host.Outcome State Fault Refusal := done 8 (s.aluWith op s.atHL)

/-- The immediate forms, 8 cycles (R116, R119, R122, R125, R128, R131, R134, R137). -/
def aluImm8 (op : AluOp) (n : Byte) (s : State) : Host.Outcome State Fault Refusal := done 8 (s.aluWith op n)

/-- INC r (R138), 4 cycles. -/
def incReg (r : R8) (s : State) : Host.Outcome State Fault Refusal :=
  let o := inc8Out (s.r8 r) s.flagC
  done 4 ((s.setR8 r o.r).setFlags o)

/-- DEC r (R140), 4 cycles. -/
def decReg (r : R8) (s : State) : Host.Outcome State Fault Refusal :=
  let o := dec8Out (s.r8 r) s.flagC
  done 4 ((s.setR8 r o.r).setFlags o)

/-- INC B (R138). -/
@[reducible] def execIncB (s : State) : Host.Outcome State Fault Refusal := incReg .b s

/-- DEC B (R140). -/
@[reducible] def execDecB (s : State) : Host.Outcome State Fault Refusal := decReg .b s

/-- INC C (R138). -/
@[reducible] def execIncC (s : State) : Host.Outcome State Fault Refusal := incReg .c s

/-- DEC C (R140). -/
@[reducible] def execDecC (s : State) : Host.Outcome State Fault Refusal := decReg .c s

/-- INC D (R138). -/
@[reducible] def execIncD (s : State) : Host.Outcome State Fault Refusal := incReg .d s

/-- DEC D (R140). -/
@[reducible] def execDecD (s : State) : Host.Outcome State Fault Refusal := decReg .d s

/-- INC E (R138). -/
@[reducible] def execIncE (s : State) : Host.Outcome State Fault Refusal := incReg .e s

/-- DEC E (R140). -/
@[reducible] def execDecE (s : State) : Host.Outcome State Fault Refusal := decReg .e s

/-- INC H (R138). -/
@[reducible] def execIncH (s : State) : Host.Outcome State Fault Refusal := incReg .h s

/-- DEC H (R140). -/
@[reducible] def execDecH (s : State) : Host.Outcome State Fault Refusal := decReg .h s

/-- INC L (R138). -/
@[reducible] def execIncL (s : State) : Host.Outcome State Fault Refusal := incReg .l s

/-- DEC L (R140). -/
@[reducible] def execDecL (s : State) : Host.Outcome State Fault Refusal := decReg .l s

/-- INC (HL) (R139). -/
@[reducible] def execIncAtHL (s : State) : Host.Outcome State Fault Refusal :=
  done 12 ((s.setAtHL (inc8Out s.atHL s.flagC).r).setFlags (inc8Out s.atHL s.flagC))

/-- DEC (HL) (R141). -/
@[reducible] def execDecAtHL (s : State) : Host.Outcome State Fault Refusal :=
  done 12 ((s.setAtHL (dec8Out s.atHL s.flagC).r).setFlags (dec8Out s.atHL s.flagC))

/-- INC A (R138). -/
@[reducible] def execIncA (s : State) : Host.Outcome State Fault Refusal := incReg .a s

/-- DEC A (R140). -/
@[reducible] def execDecA (s : State) : Host.Outcome State Fault Refusal := decReg .a s

/-- ADD A,B (R114). -/
@[reducible] def execAddAB (s : State) : Host.Outcome State Fault Refusal := aluReg .add .b s

/-- ADD A,C (R114). -/
@[reducible] def execAddAC (s : State) : Host.Outcome State Fault Refusal := aluReg .add .c s

/-- ADD A,D (R114). -/
@[reducible] def execAddAD (s : State) : Host.Outcome State Fault Refusal := aluReg .add .d s

/-- ADD A,E (R114). -/
@[reducible] def execAddAE (s : State) : Host.Outcome State Fault Refusal := aluReg .add .e s

/-- ADD A,H (R114). -/
@[reducible] def execAddAH (s : State) : Host.Outcome State Fault Refusal := aluReg .add .h s

/-- ADD A,L (R114). -/
@[reducible] def execAddAL (s : State) : Host.Outcome State Fault Refusal := aluReg .add .l s

/-- ADD A,(HL) (R115). -/
@[reducible] def execAddAAtHL (s : State) : Host.Outcome State Fault Refusal := aluMem .add s

/-- ADD A,A (R114). -/
@[reducible] def execAddAA (s : State) : Host.Outcome State Fault Refusal := aluReg .add .a s

/-- ADC A,B (R117). -/
@[reducible] def execAdcAB (s : State) : Host.Outcome State Fault Refusal := aluReg .adc .b s

/-- ADC A,C (R117). -/
@[reducible] def execAdcAC (s : State) : Host.Outcome State Fault Refusal := aluReg .adc .c s

/-- ADC A,D (R117). -/
@[reducible] def execAdcAD (s : State) : Host.Outcome State Fault Refusal := aluReg .adc .d s

/-- ADC A,E (R117). -/
@[reducible] def execAdcAE (s : State) : Host.Outcome State Fault Refusal := aluReg .adc .e s

/-- ADC A,H (R117). -/
@[reducible] def execAdcAH (s : State) : Host.Outcome State Fault Refusal := aluReg .adc .h s

/-- ADC A,L (R117). -/
@[reducible] def execAdcAL (s : State) : Host.Outcome State Fault Refusal := aluReg .adc .l s

/-- ADC A,(HL) (R118). -/
@[reducible] def execAdcAAtHL (s : State) : Host.Outcome State Fault Refusal := aluMem .adc s

/-- ADC A,A (R117). -/
@[reducible] def execAdcAA (s : State) : Host.Outcome State Fault Refusal := aluReg .adc .a s

/-- SUB B (R120). -/
@[reducible] def execSubB (s : State) : Host.Outcome State Fault Refusal := aluReg .sub .b s

/-- SUB C (R120). -/
@[reducible] def execSubC (s : State) : Host.Outcome State Fault Refusal := aluReg .sub .c s

/-- SUB D (R120). -/
@[reducible] def execSubD (s : State) : Host.Outcome State Fault Refusal := aluReg .sub .d s

/-- SUB E (R120). -/
@[reducible] def execSubE (s : State) : Host.Outcome State Fault Refusal := aluReg .sub .e s

/-- SUB H (R120). -/
@[reducible] def execSubH (s : State) : Host.Outcome State Fault Refusal := aluReg .sub .h s

/-- SUB L (R120). -/
@[reducible] def execSubL (s : State) : Host.Outcome State Fault Refusal := aluReg .sub .l s

/-- SUB (HL) (R121). -/
@[reducible] def execSubAtHL (s : State) : Host.Outcome State Fault Refusal := aluMem .sub s

/-- SUB A (R120). -/
@[reducible] def execSubA (s : State) : Host.Outcome State Fault Refusal := aluReg .sub .a s

/-- SBC A,B (R123). -/
@[reducible] def execSbcAB (s : State) : Host.Outcome State Fault Refusal := aluReg .sbc .b s

/-- SBC A,C (R123). -/
@[reducible] def execSbcAC (s : State) : Host.Outcome State Fault Refusal := aluReg .sbc .c s

/-- SBC A,D (R123). -/
@[reducible] def execSbcAD (s : State) : Host.Outcome State Fault Refusal := aluReg .sbc .d s

/-- SBC A,E (R123). -/
@[reducible] def execSbcAE (s : State) : Host.Outcome State Fault Refusal := aluReg .sbc .e s

/-- SBC A,H (R123). -/
@[reducible] def execSbcAH (s : State) : Host.Outcome State Fault Refusal := aluReg .sbc .h s

/-- SBC A,L (R123). -/
@[reducible] def execSbcAL (s : State) : Host.Outcome State Fault Refusal := aluReg .sbc .l s

/-- SBC A,(HL) (R124). -/
@[reducible] def execSbcAAtHL (s : State) : Host.Outcome State Fault Refusal := aluMem .sbc s

/-- SBC A,A (R123). -/
@[reducible] def execSbcAA (s : State) : Host.Outcome State Fault Refusal := aluReg .sbc .a s

/-- AND B (R126). -/
@[reducible] def execAndB (s : State) : Host.Outcome State Fault Refusal := aluReg .and .b s

/-- AND C (R126). -/
@[reducible] def execAndC (s : State) : Host.Outcome State Fault Refusal := aluReg .and .c s

/-- AND D (R126). -/
@[reducible] def execAndD (s : State) : Host.Outcome State Fault Refusal := aluReg .and .d s

/-- AND E (R126). -/
@[reducible] def execAndE (s : State) : Host.Outcome State Fault Refusal := aluReg .and .e s

/-- AND H (R126). -/
@[reducible] def execAndH (s : State) : Host.Outcome State Fault Refusal := aluReg .and .h s

/-- AND L (R126). -/
@[reducible] def execAndL (s : State) : Host.Outcome State Fault Refusal := aluReg .and .l s

/-- AND (HL) (R127). -/
@[reducible] def execAndAtHL (s : State) : Host.Outcome State Fault Refusal := aluMem .and s

/-- AND A (R126). -/
@[reducible] def execAndA (s : State) : Host.Outcome State Fault Refusal := aluReg .and .a s

/-- XOR B (R129). -/
@[reducible] def execXorB (s : State) : Host.Outcome State Fault Refusal := aluReg .xor .b s

/-- XOR C (R129). -/
@[reducible] def execXorC (s : State) : Host.Outcome State Fault Refusal := aluReg .xor .c s

/-- XOR D (R129). -/
@[reducible] def execXorD (s : State) : Host.Outcome State Fault Refusal := aluReg .xor .d s

/-- XOR E (R129). -/
@[reducible] def execXorE (s : State) : Host.Outcome State Fault Refusal := aluReg .xor .e s

/-- XOR H (R129). -/
@[reducible] def execXorH (s : State) : Host.Outcome State Fault Refusal := aluReg .xor .h s

/-- XOR L (R129). -/
@[reducible] def execXorL (s : State) : Host.Outcome State Fault Refusal := aluReg .xor .l s

/-- XOR (HL) (R130). -/
@[reducible] def execXorAtHL (s : State) : Host.Outcome State Fault Refusal := aluMem .xor s

/-- XOR A (R129). -/
@[reducible] def execXorA (s : State) : Host.Outcome State Fault Refusal := aluReg .xor .a s

/-- OR B (R132). -/
@[reducible] def execOrB (s : State) : Host.Outcome State Fault Refusal := aluReg .or .b s

/-- OR C (R132). -/
@[reducible] def execOrC (s : State) : Host.Outcome State Fault Refusal := aluReg .or .c s

/-- OR D (R132). -/
@[reducible] def execOrD (s : State) : Host.Outcome State Fault Refusal := aluReg .or .d s

/-- OR E (R132). -/
@[reducible] def execOrE (s : State) : Host.Outcome State Fault Refusal := aluReg .or .e s

/-- OR H (R132). -/
@[reducible] def execOrH (s : State) : Host.Outcome State Fault Refusal := aluReg .or .h s

/-- OR L (R132). -/
@[reducible] def execOrL (s : State) : Host.Outcome State Fault Refusal := aluReg .or .l s

/-- OR (HL) (R133). -/
@[reducible] def execOrAtHL (s : State) : Host.Outcome State Fault Refusal := aluMem .or s

/-- OR A (R132). -/
@[reducible] def execOrA (s : State) : Host.Outcome State Fault Refusal := aluReg .or .a s

/-- CP B (R135). -/
@[reducible] def execCpB (s : State) : Host.Outcome State Fault Refusal := aluReg .cp .b s

/-- CP C (R135). -/
@[reducible] def execCpC (s : State) : Host.Outcome State Fault Refusal := aluReg .cp .c s

/-- CP D (R135). -/
@[reducible] def execCpD (s : State) : Host.Outcome State Fault Refusal := aluReg .cp .d s

/-- CP E (R135). -/
@[reducible] def execCpE (s : State) : Host.Outcome State Fault Refusal := aluReg .cp .e s

/-- CP H (R135). -/
@[reducible] def execCpH (s : State) : Host.Outcome State Fault Refusal := aluReg .cp .h s

/-- CP L (R135). -/
@[reducible] def execCpL (s : State) : Host.Outcome State Fault Refusal := aluReg .cp .l s

/-- CP (HL) (R136). -/
@[reducible] def execCpAtHL (s : State) : Host.Outcome State Fault Refusal := aluMem .cp s

/-- CP A (R135). -/
@[reducible] def execCpA (s : State) : Host.Outcome State Fault Refusal := aluReg .cp .a s

/-- ADD A,n8 (R116). -/
@[reducible] def execAddAN8 (n : Byte) (s : State) : Host.Outcome State Fault Refusal :=
  aluImm8 .add n s

/-- ADC A,n8 (R119). -/
@[reducible] def execAdcAN8 (n : Byte) (s : State) : Host.Outcome State Fault Refusal :=
  aluImm8 .adc n s

/-- SUB n8 (R122). -/
@[reducible] def execSubN8 (n : Byte) (s : State) : Host.Outcome State Fault Refusal :=
  aluImm8 .sub n s

/-- SBC A,n8 (R125). -/
@[reducible] def execSbcAN8 (n : Byte) (s : State) : Host.Outcome State Fault Refusal :=
  aluImm8 .sbc n s

/-- AND n8 (R128). -/
@[reducible] def execAndN8 (n : Byte) (s : State) : Host.Outcome State Fault Refusal :=
  aluImm8 .and n s

/-- XOR n8 (R131). -/
@[reducible] def execXorN8 (n : Byte) (s : State) : Host.Outcome State Fault Refusal :=
  aluImm8 .xor n s

/-- OR n8 (R134). -/
@[reducible] def execOrN8 (n : Byte) (s : State) : Host.Outcome State Fault Refusal :=
  aluImm8 .or n s

/-- CP n8 (R137). -/
@[reducible] def execCpN8 (n : Byte) (s : State) : Host.Outcome State Fault Refusal :=
  aluImm8 .cp n s

end Sys2Proof.Machine
end

