-- ==== Sys2Proof/Machine/Bit.lean ====
section
/-! DEFINITION. The single-bit instructions (45_bit.md R170 to R175). -/

namespace Sys2Proof.Machine

/-- The flags of BIT b on a byte (R170): Z = the bit is 0, N = 0, H = 1, C unchanged. -/
def State.testBit (s : State) (b : Fin 8) (v : Byte) : State :=
  s.flags (!v.getLsbD b.val) false true s.flagC

/-- A byte with bit b cleared (R172). -/
def clearBit (v : Byte) (b : Fin 8) : Byte := v &&& ~~~ bitMask b.val

/-- A byte with bit b set (R174). -/
def setBit (v : Byte) (b : Fin 8) : Byte := v ||| bitMask b.val

/-- BIT b,r (R170), 8 cycles. -/
def bitReg (b : Fin 8) (r : R8) (s : State) : Host.Outcome State Fault Refusal := done 8 (s.testBit b (s.r8 r))

/-- BIT b,(HL) (R171), 12 cycles. -/
def bitMem (b : Fin 8) (s : State) : Host.Outcome State Fault Refusal := done 12 (s.testBit b s.atHL)

/-- RES b,r (R172), 8 cycles. -/
def resReg (b : Fin 8) (r : R8) (s : State) : Host.Outcome State Fault Refusal :=
  done 8 (s.setR8 r (clearBit (s.r8 r) b))

/-- RES b,(HL) (R173): one read, one write, 16 cycles. -/
def resMem (b : Fin 8) (s : State) : Host.Outcome State Fault Refusal := done 16 (s.setAtHL (clearBit s.atHL b))

/-- SET b,r (R174), 8 cycles. -/
def setReg (b : Fin 8) (r : R8) (s : State) : Host.Outcome State Fault Refusal :=
  done 8 (s.setR8 r (setBit (s.r8 r) b))

/-- SET b,(HL) (R175): one read, one write, 16 cycles. -/
def setMem (b : Fin 8) (s : State) : Host.Outcome State Fault Refusal := done 16 (s.setAtHL (setBit s.atHL b))

/-- BIT 0,B (R170). -/
@[reducible] def execBit0B (s : State) : Host.Outcome State Fault Refusal := bitReg 0 .b s

/-- BIT 0,C (R170). -/
@[reducible] def execBit0C (s : State) : Host.Outcome State Fault Refusal := bitReg 0 .c s

/-- BIT 0,D (R170). -/
@[reducible] def execBit0D (s : State) : Host.Outcome State Fault Refusal := bitReg 0 .d s

/-- BIT 0,E (R170). -/
@[reducible] def execBit0E (s : State) : Host.Outcome State Fault Refusal := bitReg 0 .e s

/-- BIT 0,H (R170). -/
@[reducible] def execBit0H (s : State) : Host.Outcome State Fault Refusal := bitReg 0 .h s

/-- BIT 0,L (R170). -/
@[reducible] def execBit0L (s : State) : Host.Outcome State Fault Refusal := bitReg 0 .l s

/-- BIT 0,(HL) (R171). -/
@[reducible] def execBit0AtHL (s : State) : Host.Outcome State Fault Refusal := bitMem 0 s

/-- BIT 0,A (R170). -/
@[reducible] def execBit0A (s : State) : Host.Outcome State Fault Refusal := bitReg 0 .a s

/-- BIT 1,B (R170). -/
@[reducible] def execBit1B (s : State) : Host.Outcome State Fault Refusal := bitReg 1 .b s

/-- BIT 1,C (R170). -/
@[reducible] def execBit1C (s : State) : Host.Outcome State Fault Refusal := bitReg 1 .c s

/-- BIT 1,D (R170). -/
@[reducible] def execBit1D (s : State) : Host.Outcome State Fault Refusal := bitReg 1 .d s

/-- BIT 1,E (R170). -/
@[reducible] def execBit1E (s : State) : Host.Outcome State Fault Refusal := bitReg 1 .e s

/-- BIT 1,H (R170). -/
@[reducible] def execBit1H (s : State) : Host.Outcome State Fault Refusal := bitReg 1 .h s

/-- BIT 1,L (R170). -/
@[reducible] def execBit1L (s : State) : Host.Outcome State Fault Refusal := bitReg 1 .l s

/-- BIT 1,(HL) (R171). -/
@[reducible] def execBit1AtHL (s : State) : Host.Outcome State Fault Refusal := bitMem 1 s

/-- BIT 1,A (R170). -/
@[reducible] def execBit1A (s : State) : Host.Outcome State Fault Refusal := bitReg 1 .a s

/-- BIT 2,B (R170). -/
@[reducible] def execBit2B (s : State) : Host.Outcome State Fault Refusal := bitReg 2 .b s

/-- BIT 2,C (R170). -/
@[reducible] def execBit2C (s : State) : Host.Outcome State Fault Refusal := bitReg 2 .c s

/-- BIT 2,D (R170). -/
@[reducible] def execBit2D (s : State) : Host.Outcome State Fault Refusal := bitReg 2 .d s

/-- BIT 2,E (R170). -/
@[reducible] def execBit2E (s : State) : Host.Outcome State Fault Refusal := bitReg 2 .e s

/-- BIT 2,H (R170). -/
@[reducible] def execBit2H (s : State) : Host.Outcome State Fault Refusal := bitReg 2 .h s

/-- BIT 2,L (R170). -/
@[reducible] def execBit2L (s : State) : Host.Outcome State Fault Refusal := bitReg 2 .l s

/-- BIT 2,(HL) (R171). -/
@[reducible] def execBit2AtHL (s : State) : Host.Outcome State Fault Refusal := bitMem 2 s

/-- BIT 2,A (R170). -/
@[reducible] def execBit2A (s : State) : Host.Outcome State Fault Refusal := bitReg 2 .a s

/-- BIT 3,B (R170). -/
@[reducible] def execBit3B (s : State) : Host.Outcome State Fault Refusal := bitReg 3 .b s

/-- BIT 3,C (R170). -/
@[reducible] def execBit3C (s : State) : Host.Outcome State Fault Refusal := bitReg 3 .c s

/-- BIT 3,D (R170). -/
@[reducible] def execBit3D (s : State) : Host.Outcome State Fault Refusal := bitReg 3 .d s

/-- BIT 3,E (R170). -/
@[reducible] def execBit3E (s : State) : Host.Outcome State Fault Refusal := bitReg 3 .e s

/-- BIT 3,H (R170). -/
@[reducible] def execBit3H (s : State) : Host.Outcome State Fault Refusal := bitReg 3 .h s

/-- BIT 3,L (R170). -/
@[reducible] def execBit3L (s : State) : Host.Outcome State Fault Refusal := bitReg 3 .l s

/-- BIT 3,(HL) (R171). -/
@[reducible] def execBit3AtHL (s : State) : Host.Outcome State Fault Refusal := bitMem 3 s

/-- BIT 3,A (R170). -/
@[reducible] def execBit3A (s : State) : Host.Outcome State Fault Refusal := bitReg 3 .a s

/-- BIT 4,B (R170). -/
@[reducible] def execBit4B (s : State) : Host.Outcome State Fault Refusal := bitReg 4 .b s

/-- BIT 4,C (R170). -/
@[reducible] def execBit4C (s : State) : Host.Outcome State Fault Refusal := bitReg 4 .c s

/-- BIT 4,D (R170). -/
@[reducible] def execBit4D (s : State) : Host.Outcome State Fault Refusal := bitReg 4 .d s

/-- BIT 4,E (R170). -/
@[reducible] def execBit4E (s : State) : Host.Outcome State Fault Refusal := bitReg 4 .e s

/-- BIT 4,H (R170). -/
@[reducible] def execBit4H (s : State) : Host.Outcome State Fault Refusal := bitReg 4 .h s

/-- BIT 4,L (R170). -/
@[reducible] def execBit4L (s : State) : Host.Outcome State Fault Refusal := bitReg 4 .l s

/-- BIT 4,(HL) (R171). -/
@[reducible] def execBit4AtHL (s : State) : Host.Outcome State Fault Refusal := bitMem 4 s

/-- BIT 4,A (R170). -/
@[reducible] def execBit4A (s : State) : Host.Outcome State Fault Refusal := bitReg 4 .a s

/-- BIT 5,B (R170). -/
@[reducible] def execBit5B (s : State) : Host.Outcome State Fault Refusal := bitReg 5 .b s

/-- BIT 5,C (R170). -/
@[reducible] def execBit5C (s : State) : Host.Outcome State Fault Refusal := bitReg 5 .c s

/-- BIT 5,D (R170). -/
@[reducible] def execBit5D (s : State) : Host.Outcome State Fault Refusal := bitReg 5 .d s

/-- BIT 5,E (R170). -/
@[reducible] def execBit5E (s : State) : Host.Outcome State Fault Refusal := bitReg 5 .e s

/-- BIT 5,H (R170). -/
@[reducible] def execBit5H (s : State) : Host.Outcome State Fault Refusal := bitReg 5 .h s

/-- BIT 5,L (R170). -/
@[reducible] def execBit5L (s : State) : Host.Outcome State Fault Refusal := bitReg 5 .l s

/-- BIT 5,(HL) (R171). -/
@[reducible] def execBit5AtHL (s : State) : Host.Outcome State Fault Refusal := bitMem 5 s

/-- BIT 5,A (R170). -/
@[reducible] def execBit5A (s : State) : Host.Outcome State Fault Refusal := bitReg 5 .a s

/-- BIT 6,B (R170). -/
@[reducible] def execBit6B (s : State) : Host.Outcome State Fault Refusal := bitReg 6 .b s

/-- BIT 6,C (R170). -/
@[reducible] def execBit6C (s : State) : Host.Outcome State Fault Refusal := bitReg 6 .c s

/-- BIT 6,D (R170). -/
@[reducible] def execBit6D (s : State) : Host.Outcome State Fault Refusal := bitReg 6 .d s

/-- BIT 6,E (R170). -/
@[reducible] def execBit6E (s : State) : Host.Outcome State Fault Refusal := bitReg 6 .e s

/-- BIT 6,H (R170). -/
@[reducible] def execBit6H (s : State) : Host.Outcome State Fault Refusal := bitReg 6 .h s

/-- BIT 6,L (R170). -/
@[reducible] def execBit6L (s : State) : Host.Outcome State Fault Refusal := bitReg 6 .l s

/-- BIT 6,(HL) (R171). -/
@[reducible] def execBit6AtHL (s : State) : Host.Outcome State Fault Refusal := bitMem 6 s

/-- BIT 6,A (R170). -/
@[reducible] def execBit6A (s : State) : Host.Outcome State Fault Refusal := bitReg 6 .a s

/-- BIT 7,B (R170). -/
@[reducible] def execBit7B (s : State) : Host.Outcome State Fault Refusal := bitReg 7 .b s

/-- BIT 7,C (R170). -/
@[reducible] def execBit7C (s : State) : Host.Outcome State Fault Refusal := bitReg 7 .c s

/-- BIT 7,D (R170). -/
@[reducible] def execBit7D (s : State) : Host.Outcome State Fault Refusal := bitReg 7 .d s

/-- BIT 7,E (R170). -/
@[reducible] def execBit7E (s : State) : Host.Outcome State Fault Refusal := bitReg 7 .e s

/-- BIT 7,H (R170). -/
@[reducible] def execBit7H (s : State) : Host.Outcome State Fault Refusal := bitReg 7 .h s

/-- BIT 7,L (R170). -/
@[reducible] def execBit7L (s : State) : Host.Outcome State Fault Refusal := bitReg 7 .l s

/-- BIT 7,(HL) (R171). -/
@[reducible] def execBit7AtHL (s : State) : Host.Outcome State Fault Refusal := bitMem 7 s

/-- BIT 7,A (R170). -/
@[reducible] def execBit7A (s : State) : Host.Outcome State Fault Refusal := bitReg 7 .a s

/-- RES 0,B (R172). -/
@[reducible] def execRes0B (s : State) : Host.Outcome State Fault Refusal := resReg 0 .b s

/-- RES 0,C (R172). -/
@[reducible] def execRes0C (s : State) : Host.Outcome State Fault Refusal := resReg 0 .c s

/-- RES 0,D (R172). -/
@[reducible] def execRes0D (s : State) : Host.Outcome State Fault Refusal := resReg 0 .d s

/-- RES 0,E (R172). -/
@[reducible] def execRes0E (s : State) : Host.Outcome State Fault Refusal := resReg 0 .e s

/-- RES 0,H (R172). -/
@[reducible] def execRes0H (s : State) : Host.Outcome State Fault Refusal := resReg 0 .h s

/-- RES 0,L (R172). -/
@[reducible] def execRes0L (s : State) : Host.Outcome State Fault Refusal := resReg 0 .l s

/-- RES 0,(HL) (R173). -/
@[reducible] def execRes0AtHL (s : State) : Host.Outcome State Fault Refusal := resMem 0 s

/-- RES 0,A (R172). -/
@[reducible] def execRes0A (s : State) : Host.Outcome State Fault Refusal := resReg 0 .a s

/-- RES 1,B (R172). -/
@[reducible] def execRes1B (s : State) : Host.Outcome State Fault Refusal := resReg 1 .b s

/-- RES 1,C (R172). -/
@[reducible] def execRes1C (s : State) : Host.Outcome State Fault Refusal := resReg 1 .c s

/-- RES 1,D (R172). -/
@[reducible] def execRes1D (s : State) : Host.Outcome State Fault Refusal := resReg 1 .d s

/-- RES 1,E (R172). -/
@[reducible] def execRes1E (s : State) : Host.Outcome State Fault Refusal := resReg 1 .e s

/-- RES 1,H (R172). -/
@[reducible] def execRes1H (s : State) : Host.Outcome State Fault Refusal := resReg 1 .h s

/-- RES 1,L (R172). -/
@[reducible] def execRes1L (s : State) : Host.Outcome State Fault Refusal := resReg 1 .l s

/-- RES 1,(HL) (R173). -/
@[reducible] def execRes1AtHL (s : State) : Host.Outcome State Fault Refusal := resMem 1 s

/-- RES 1,A (R172). -/
@[reducible] def execRes1A (s : State) : Host.Outcome State Fault Refusal := resReg 1 .a s

/-- RES 2,B (R172). -/
@[reducible] def execRes2B (s : State) : Host.Outcome State Fault Refusal := resReg 2 .b s

/-- RES 2,C (R172). -/
@[reducible] def execRes2C (s : State) : Host.Outcome State Fault Refusal := resReg 2 .c s

/-- RES 2,D (R172). -/
@[reducible] def execRes2D (s : State) : Host.Outcome State Fault Refusal := resReg 2 .d s

/-- RES 2,E (R172). -/
@[reducible] def execRes2E (s : State) : Host.Outcome State Fault Refusal := resReg 2 .e s

/-- RES 2,H (R172). -/
@[reducible] def execRes2H (s : State) : Host.Outcome State Fault Refusal := resReg 2 .h s

/-- RES 2,L (R172). -/
@[reducible] def execRes2L (s : State) : Host.Outcome State Fault Refusal := resReg 2 .l s

/-- RES 2,(HL) (R173). -/
@[reducible] def execRes2AtHL (s : State) : Host.Outcome State Fault Refusal := resMem 2 s

/-- RES 2,A (R172). -/
@[reducible] def execRes2A (s : State) : Host.Outcome State Fault Refusal := resReg 2 .a s

/-- RES 3,B (R172). -/
@[reducible] def execRes3B (s : State) : Host.Outcome State Fault Refusal := resReg 3 .b s

/-- RES 3,C (R172). -/
@[reducible] def execRes3C (s : State) : Host.Outcome State Fault Refusal := resReg 3 .c s

/-- RES 3,D (R172). -/
@[reducible] def execRes3D (s : State) : Host.Outcome State Fault Refusal := resReg 3 .d s

/-- RES 3,E (R172). -/
@[reducible] def execRes3E (s : State) : Host.Outcome State Fault Refusal := resReg 3 .e s

/-- RES 3,H (R172). -/
@[reducible] def execRes3H (s : State) : Host.Outcome State Fault Refusal := resReg 3 .h s

/-- RES 3,L (R172). -/
@[reducible] def execRes3L (s : State) : Host.Outcome State Fault Refusal := resReg 3 .l s

/-- RES 3,(HL) (R173). -/
@[reducible] def execRes3AtHL (s : State) : Host.Outcome State Fault Refusal := resMem 3 s

/-- RES 3,A (R172). -/
@[reducible] def execRes3A (s : State) : Host.Outcome State Fault Refusal := resReg 3 .a s

/-- RES 4,B (R172). -/
@[reducible] def execRes4B (s : State) : Host.Outcome State Fault Refusal := resReg 4 .b s

/-- RES 4,C (R172). -/
@[reducible] def execRes4C (s : State) : Host.Outcome State Fault Refusal := resReg 4 .c s

/-- RES 4,D (R172). -/
@[reducible] def execRes4D (s : State) : Host.Outcome State Fault Refusal := resReg 4 .d s

/-- RES 4,E (R172). -/
@[reducible] def execRes4E (s : State) : Host.Outcome State Fault Refusal := resReg 4 .e s

/-- RES 4,H (R172). -/
@[reducible] def execRes4H (s : State) : Host.Outcome State Fault Refusal := resReg 4 .h s

/-- RES 4,L (R172). -/
@[reducible] def execRes4L (s : State) : Host.Outcome State Fault Refusal := resReg 4 .l s

/-- RES 4,(HL) (R173). -/
@[reducible] def execRes4AtHL (s : State) : Host.Outcome State Fault Refusal := resMem 4 s

/-- RES 4,A (R172). -/
@[reducible] def execRes4A (s : State) : Host.Outcome State Fault Refusal := resReg 4 .a s

/-- RES 5,B (R172). -/
@[reducible] def execRes5B (s : State) : Host.Outcome State Fault Refusal := resReg 5 .b s

/-- RES 5,C (R172). -/
@[reducible] def execRes5C (s : State) : Host.Outcome State Fault Refusal := resReg 5 .c s

/-- RES 5,D (R172). -/
@[reducible] def execRes5D (s : State) : Host.Outcome State Fault Refusal := resReg 5 .d s

/-- RES 5,E (R172). -/
@[reducible] def execRes5E (s : State) : Host.Outcome State Fault Refusal := resReg 5 .e s

/-- RES 5,H (R172). -/
@[reducible] def execRes5H (s : State) : Host.Outcome State Fault Refusal := resReg 5 .h s

/-- RES 5,L (R172). -/
@[reducible] def execRes5L (s : State) : Host.Outcome State Fault Refusal := resReg 5 .l s

/-- RES 5,(HL) (R173). -/
@[reducible] def execRes5AtHL (s : State) : Host.Outcome State Fault Refusal := resMem 5 s

/-- RES 5,A (R172). -/
@[reducible] def execRes5A (s : State) : Host.Outcome State Fault Refusal := resReg 5 .a s

/-- RES 6,B (R172). -/
@[reducible] def execRes6B (s : State) : Host.Outcome State Fault Refusal := resReg 6 .b s

/-- RES 6,C (R172). -/
@[reducible] def execRes6C (s : State) : Host.Outcome State Fault Refusal := resReg 6 .c s

/-- RES 6,D (R172). -/
@[reducible] def execRes6D (s : State) : Host.Outcome State Fault Refusal := resReg 6 .d s

/-- RES 6,E (R172). -/
@[reducible] def execRes6E (s : State) : Host.Outcome State Fault Refusal := resReg 6 .e s

/-- RES 6,H (R172). -/
@[reducible] def execRes6H (s : State) : Host.Outcome State Fault Refusal := resReg 6 .h s

/-- RES 6,L (R172). -/
@[reducible] def execRes6L (s : State) : Host.Outcome State Fault Refusal := resReg 6 .l s

/-- RES 6,(HL) (R173). -/
@[reducible] def execRes6AtHL (s : State) : Host.Outcome State Fault Refusal := resMem 6 s

/-- RES 6,A (R172). -/
@[reducible] def execRes6A (s : State) : Host.Outcome State Fault Refusal := resReg 6 .a s

/-- RES 7,B (R172). -/
@[reducible] def execRes7B (s : State) : Host.Outcome State Fault Refusal := resReg 7 .b s

/-- RES 7,C (R172). -/
@[reducible] def execRes7C (s : State) : Host.Outcome State Fault Refusal := resReg 7 .c s

/-- RES 7,D (R172). -/
@[reducible] def execRes7D (s : State) : Host.Outcome State Fault Refusal := resReg 7 .d s

/-- RES 7,E (R172). -/
@[reducible] def execRes7E (s : State) : Host.Outcome State Fault Refusal := resReg 7 .e s

/-- RES 7,H (R172). -/
@[reducible] def execRes7H (s : State) : Host.Outcome State Fault Refusal := resReg 7 .h s

/-- RES 7,L (R172). -/
@[reducible] def execRes7L (s : State) : Host.Outcome State Fault Refusal := resReg 7 .l s

/-- RES 7,(HL) (R173). -/
@[reducible] def execRes7AtHL (s : State) : Host.Outcome State Fault Refusal := resMem 7 s

/-- RES 7,A (R172). -/
@[reducible] def execRes7A (s : State) : Host.Outcome State Fault Refusal := resReg 7 .a s

/-- SET 0,B (R174). -/
@[reducible] def execSet0B (s : State) : Host.Outcome State Fault Refusal := setReg 0 .b s

/-- SET 0,C (R174). -/
@[reducible] def execSet0C (s : State) : Host.Outcome State Fault Refusal := setReg 0 .c s

/-- SET 0,D (R174). -/
@[reducible] def execSet0D (s : State) : Host.Outcome State Fault Refusal := setReg 0 .d s

/-- SET 0,E (R174). -/
@[reducible] def execSet0E (s : State) : Host.Outcome State Fault Refusal := setReg 0 .e s

/-- SET 0,H (R174). -/
@[reducible] def execSet0H (s : State) : Host.Outcome State Fault Refusal := setReg 0 .h s

/-- SET 0,L (R174). -/
@[reducible] def execSet0L (s : State) : Host.Outcome State Fault Refusal := setReg 0 .l s

/-- SET 0,(HL) (R175). -/
@[reducible] def execSet0AtHL (s : State) : Host.Outcome State Fault Refusal := setMem 0 s

/-- SET 0,A (R174). -/
@[reducible] def execSet0A (s : State) : Host.Outcome State Fault Refusal := setReg 0 .a s

/-- SET 1,B (R174). -/
@[reducible] def execSet1B (s : State) : Host.Outcome State Fault Refusal := setReg 1 .b s

/-- SET 1,C (R174). -/
@[reducible] def execSet1C (s : State) : Host.Outcome State Fault Refusal := setReg 1 .c s

/-- SET 1,D (R174). -/
@[reducible] def execSet1D (s : State) : Host.Outcome State Fault Refusal := setReg 1 .d s

/-- SET 1,E (R174). -/
@[reducible] def execSet1E (s : State) : Host.Outcome State Fault Refusal := setReg 1 .e s

/-- SET 1,H (R174). -/
@[reducible] def execSet1H (s : State) : Host.Outcome State Fault Refusal := setReg 1 .h s

/-- SET 1,L (R174). -/
@[reducible] def execSet1L (s : State) : Host.Outcome State Fault Refusal := setReg 1 .l s

/-- SET 1,(HL) (R175). -/
@[reducible] def execSet1AtHL (s : State) : Host.Outcome State Fault Refusal := setMem 1 s

/-- SET 1,A (R174). -/
@[reducible] def execSet1A (s : State) : Host.Outcome State Fault Refusal := setReg 1 .a s

/-- SET 2,B (R174). -/
@[reducible] def execSet2B (s : State) : Host.Outcome State Fault Refusal := setReg 2 .b s

/-- SET 2,C (R174). -/
@[reducible] def execSet2C (s : State) : Host.Outcome State Fault Refusal := setReg 2 .c s

/-- SET 2,D (R174). -/
@[reducible] def execSet2D (s : State) : Host.Outcome State Fault Refusal := setReg 2 .d s

/-- SET 2,E (R174). -/
@[reducible] def execSet2E (s : State) : Host.Outcome State Fault Refusal := setReg 2 .e s

/-- SET 2,H (R174). -/
@[reducible] def execSet2H (s : State) : Host.Outcome State Fault Refusal := setReg 2 .h s

/-- SET 2,L (R174). -/
@[reducible] def execSet2L (s : State) : Host.Outcome State Fault Refusal := setReg 2 .l s

/-- SET 2,(HL) (R175). -/
@[reducible] def execSet2AtHL (s : State) : Host.Outcome State Fault Refusal := setMem 2 s

/-- SET 2,A (R174). -/
@[reducible] def execSet2A (s : State) : Host.Outcome State Fault Refusal := setReg 2 .a s

/-- SET 3,B (R174). -/
@[reducible] def execSet3B (s : State) : Host.Outcome State Fault Refusal := setReg 3 .b s

/-- SET 3,C (R174). -/
@[reducible] def execSet3C (s : State) : Host.Outcome State Fault Refusal := setReg 3 .c s

/-- SET 3,D (R174). -/
@[reducible] def execSet3D (s : State) : Host.Outcome State Fault Refusal := setReg 3 .d s

/-- SET 3,E (R174). -/
@[reducible] def execSet3E (s : State) : Host.Outcome State Fault Refusal := setReg 3 .e s

/-- SET 3,H (R174). -/
@[reducible] def execSet3H (s : State) : Host.Outcome State Fault Refusal := setReg 3 .h s

/-- SET 3,L (R174). -/
@[reducible] def execSet3L (s : State) : Host.Outcome State Fault Refusal := setReg 3 .l s

/-- SET 3,(HL) (R175). -/
@[reducible] def execSet3AtHL (s : State) : Host.Outcome State Fault Refusal := setMem 3 s

/-- SET 3,A (R174). -/
@[reducible] def execSet3A (s : State) : Host.Outcome State Fault Refusal := setReg 3 .a s

/-- SET 4,B (R174). -/
@[reducible] def execSet4B (s : State) : Host.Outcome State Fault Refusal := setReg 4 .b s

/-- SET 4,C (R174). -/
@[reducible] def execSet4C (s : State) : Host.Outcome State Fault Refusal := setReg 4 .c s

/-- SET 4,D (R174). -/
@[reducible] def execSet4D (s : State) : Host.Outcome State Fault Refusal := setReg 4 .d s

/-- SET 4,E (R174). -/
@[reducible] def execSet4E (s : State) : Host.Outcome State Fault Refusal := setReg 4 .e s

/-- SET 4,H (R174). -/
@[reducible] def execSet4H (s : State) : Host.Outcome State Fault Refusal := setReg 4 .h s

/-- SET 4,L (R174). -/
@[reducible] def execSet4L (s : State) : Host.Outcome State Fault Refusal := setReg 4 .l s

/-- SET 4,(HL) (R175). -/
@[reducible] def execSet4AtHL (s : State) : Host.Outcome State Fault Refusal := setMem 4 s

/-- SET 4,A (R174). -/
@[reducible] def execSet4A (s : State) : Host.Outcome State Fault Refusal := setReg 4 .a s

/-- SET 5,B (R174). -/
@[reducible] def execSet5B (s : State) : Host.Outcome State Fault Refusal := setReg 5 .b s

/-- SET 5,C (R174). -/
@[reducible] def execSet5C (s : State) : Host.Outcome State Fault Refusal := setReg 5 .c s

/-- SET 5,D (R174). -/
@[reducible] def execSet5D (s : State) : Host.Outcome State Fault Refusal := setReg 5 .d s

/-- SET 5,E (R174). -/
@[reducible] def execSet5E (s : State) : Host.Outcome State Fault Refusal := setReg 5 .e s

/-- SET 5,H (R174). -/
@[reducible] def execSet5H (s : State) : Host.Outcome State Fault Refusal := setReg 5 .h s

/-- SET 5,L (R174). -/
@[reducible] def execSet5L (s : State) : Host.Outcome State Fault Refusal := setReg 5 .l s

/-- SET 5,(HL) (R175). -/
@[reducible] def execSet5AtHL (s : State) : Host.Outcome State Fault Refusal := setMem 5 s

/-- SET 5,A (R174). -/
@[reducible] def execSet5A (s : State) : Host.Outcome State Fault Refusal := setReg 5 .a s

/-- SET 6,B (R174). -/
@[reducible] def execSet6B (s : State) : Host.Outcome State Fault Refusal := setReg 6 .b s

/-- SET 6,C (R174). -/
@[reducible] def execSet6C (s : State) : Host.Outcome State Fault Refusal := setReg 6 .c s

/-- SET 6,D (R174). -/
@[reducible] def execSet6D (s : State) : Host.Outcome State Fault Refusal := setReg 6 .d s

/-- SET 6,E (R174). -/
@[reducible] def execSet6E (s : State) : Host.Outcome State Fault Refusal := setReg 6 .e s

/-- SET 6,H (R174). -/
@[reducible] def execSet6H (s : State) : Host.Outcome State Fault Refusal := setReg 6 .h s

/-- SET 6,L (R174). -/
@[reducible] def execSet6L (s : State) : Host.Outcome State Fault Refusal := setReg 6 .l s

/-- SET 6,(HL) (R175). -/
@[reducible] def execSet6AtHL (s : State) : Host.Outcome State Fault Refusal := setMem 6 s

/-- SET 6,A (R174). -/
@[reducible] def execSet6A (s : State) : Host.Outcome State Fault Refusal := setReg 6 .a s

/-- SET 7,B (R174). -/
@[reducible] def execSet7B (s : State) : Host.Outcome State Fault Refusal := setReg 7 .b s

/-- SET 7,C (R174). -/
@[reducible] def execSet7C (s : State) : Host.Outcome State Fault Refusal := setReg 7 .c s

/-- SET 7,D (R174). -/
@[reducible] def execSet7D (s : State) : Host.Outcome State Fault Refusal := setReg 7 .d s

/-- SET 7,E (R174). -/
@[reducible] def execSet7E (s : State) : Host.Outcome State Fault Refusal := setReg 7 .e s

/-- SET 7,H (R174). -/
@[reducible] def execSet7H (s : State) : Host.Outcome State Fault Refusal := setReg 7 .h s

/-- SET 7,L (R174). -/
@[reducible] def execSet7L (s : State) : Host.Outcome State Fault Refusal := setReg 7 .l s

/-- SET 7,(HL) (R175). -/
@[reducible] def execSet7AtHL (s : State) : Host.Outcome State Fault Refusal := setMem 7 s

/-- SET 7,A (R174). -/
@[reducible] def execSet7A (s : State) : Host.Outcome State Fault Refusal := setReg 7 .a s

end Sys2Proof.Machine
end

