-- ==== Sys2Proof/Machine/Control.lean ====
section
/-! DEFINITION. Jumps, calls and returns (46_control.md R176 to R187). PC is the address after the whole
instruction when a meaning runs; a conditional form has a taken and a not-taken cost. -/

namespace Sys2Proof.Machine

/-- JP cc,a16 (R178): 16 cycles taken, 12 not. -/
def jumpIf (cc : Cond) (a : Word) (s : State) : Host.Outcome State Fault Refusal :=
  if s.cond cc then done 16 (s.setPc a) else done 12 s

/-- The target of a relative jump (R180): PC after the displacement byte plus the signed displacement. -/
def State.relative (s : State) (e : Byte) : Word := s.regs.pc + sext16 e

/-- JR cc,e8 (R181): 12 cycles taken, 8 not. -/
def jumpRelIf (cc : Cond) (e : Byte) (s : State) : Host.Outcome State Fault Refusal :=
  if s.cond cc then done 12 (s.setPc (s.relative e)) else done 8 s

/-- `push16(PC); PC <- a` (R182, R187). -/
def State.callTo (s : State) (a : Word) : State := (s.push16 s.regs.pc).setPc a

/-- CALL cc,a16 (R183): 24 cycles taken, 12 not. -/
def callCond (cc : Cond) (a : Word) (s : State) : Host.Outcome State Fault Refusal :=
  if s.cond cc then done 24 (s.callTo a) else done 12 s

/-- RET cc (R185): 20 cycles taken, 8 not. -/
def retCond (cc : Cond) (s : State) : Host.Outcome State Fault Refusal :=
  if s.cond cc then done 20 s.returnToTop else done 8 s

/-- RST t (R187), t = 8y: 16 cycles. -/
def restart (y : Fin 8) (s : State) : Host.Outcome State Fault Refusal :=
  done 16 (s.callTo (BitVec.ofNat 16 (y.val * 8)))

/-- JR e8 (R180). -/
@[reducible] def execJrE8 (e : Byte) (s : State) : Host.Outcome State Fault Refusal :=
  done 12 (s.setPc (s.relative e))

/-- JR NZ,e8 (R181). -/
@[reducible] def execJrNZE8 (e : Byte) (s : State) : Host.Outcome State Fault Refusal :=
  jumpRelIf .nz e s

/-- JR Z,e8 (R181). -/
@[reducible] def execJrZE8 (e : Byte) (s : State) : Host.Outcome State Fault Refusal :=
  jumpRelIf .z e s

/-- JR NC,e8 (R181). -/
@[reducible] def execJrNCE8 (e : Byte) (s : State) : Host.Outcome State Fault Refusal :=
  jumpRelIf .nc e s

/-- JR C,e8 (R181). -/
@[reducible] def execJrCE8 (e : Byte) (s : State) : Host.Outcome State Fault Refusal :=
  jumpRelIf .c e s

/-- RET NZ (R185). -/
@[reducible] def execRetNZ (s : State) : Host.Outcome State Fault Refusal := retCond .nz s

/-- JP NZ,a16 (R178). -/
@[reducible] def execJpNZA16 (a : Word) (s : State) : Host.Outcome State Fault Refusal :=
  jumpIf .nz a s

/-- JP a16 (R177). -/
@[reducible] def execJpA16 (a : Word) (s : State) : Host.Outcome State Fault Refusal :=
  done 16 (s.setPc a)

/-- CALL NZ,a16 (R183). -/
@[reducible] def execCallNZA16 (a : Word) (s : State) : Host.Outcome State Fault Refusal :=
  callCond .nz a s

/-- RST 0x00 (R187). -/
@[reducible] def execRst00 (s : State) : Host.Outcome State Fault Refusal := restart 0 s

/-- RET Z (R185). -/
@[reducible] def execRetZ (s : State) : Host.Outcome State Fault Refusal := retCond .z s

/-- RET (R184). -/
@[reducible] def execRet (s : State) : Host.Outcome State Fault Refusal := done 16 s.returnToTop

/-- JP Z,a16 (R178). -/
@[reducible] def execJpZA16 (a : Word) (s : State) : Host.Outcome State Fault Refusal :=
  jumpIf .z a s

/-- CALL Z,a16 (R183). -/
@[reducible] def execCallZA16 (a : Word) (s : State) : Host.Outcome State Fault Refusal :=
  callCond .z a s

/-- CALL a16 (R182). -/
@[reducible] def execCallA16 (a : Word) (s : State) : Host.Outcome State Fault Refusal :=
  done 24 (s.callTo a)

/-- RST 0x08 (R187). -/
@[reducible] def execRst08 (s : State) : Host.Outcome State Fault Refusal := restart 1 s

/-- RET NC (R185). -/
@[reducible] def execRetNC (s : State) : Host.Outcome State Fault Refusal := retCond .nc s

/-- JP NC,a16 (R178). -/
@[reducible] def execJpNCA16 (a : Word) (s : State) : Host.Outcome State Fault Refusal :=
  jumpIf .nc a s

/-- CALL NC,a16 (R183). -/
@[reducible] def execCallNCA16 (a : Word) (s : State) : Host.Outcome State Fault Refusal :=
  callCond .nc a s

/-- RST 0x10 (R187). -/
@[reducible] def execRst10 (s : State) : Host.Outcome State Fault Refusal := restart 2 s

/-- RET C (R185). -/
@[reducible] def execRetC (s : State) : Host.Outcome State Fault Refusal := retCond .c s

/-- RETI (R186). -/
@[reducible] def execReti (s : State) : Host.Outcome State Fault Refusal :=
  done 16 s.returnFromInterrupt

/-- JP C,a16 (R178). -/
@[reducible] def execJpCA16 (a : Word) (s : State) : Host.Outcome State Fault Refusal :=
  jumpIf .c a s

/-- CALL C,a16 (R183). -/
@[reducible] def execCallCA16 (a : Word) (s : State) : Host.Outcome State Fault Refusal :=
  callCond .c a s

/-- RST 0x18 (R187). -/
@[reducible] def execRst18 (s : State) : Host.Outcome State Fault Refusal := restart 3 s

/-- RST 0x20 (R187). -/
@[reducible] def execRst20 (s : State) : Host.Outcome State Fault Refusal := restart 4 s

/-- JP HL (R179). No memory is read. -/
@[reducible] def execJpHL (s : State) : Host.Outcome State Fault Refusal := done 4 (s.setPc s.hl)

/-- RST 0x28 (R187). -/
@[reducible] def execRst28 (s : State) : Host.Outcome State Fault Refusal := restart 5 s

/-- RST 0x30 (R187). -/
@[reducible] def execRst30 (s : State) : Host.Outcome State Fault Refusal := restart 6 s

/-- RST 0x38 (R187). -/
@[reducible] def execRst38 (s : State) : Host.Outcome State Fault Refusal := restart 7 s

end Sys2Proof.Machine
end

