-- ==== Sys2Proof/Machine/Load8.lean ====
section
/-! DEFINITION. The 8-bit loads (40_load8.md R86 to R104). No instruction here writes a flag. PC is past
the whole instruction when a meaning runs (R79). The shared operations come first, then one definition
per instruction. -/

namespace Sys2Proof.Machine

/-- LD r,r' (R86): `x[r] <- x[r']`, 4 cycles. -/
def ldReg (r r' : R8) (s : State) : Host.Outcome State Fault Refusal := done 4 (s.setR8 r (s.r8 r'))

/-- LD r,n8 (R87): `x[r] <- n`, 8 cycles. -/
def ldImm (r : R8) (n : Byte) (s : State) : Host.Outcome State Fault Refusal := done 8 (s.setR8 r n)

/-- LD r,(HL) (R88): `x[r] <- MemRead(HL, 1)`, 8 cycles. -/
def ldFromHL (r : R8) (s : State) : Host.Outcome State Fault Refusal := done 8 (s.setR8 r s.atHL)

/-- LD (HL),r (R89): `MemWrite(HL, 1, x[r])`, 8 cycles. -/
def ldToHL (r : R8) (s : State) : Host.Outcome State Fault Refusal := done 8 (s.setAtHL (s.r8 r))

/-- `A <- MemRead(a, 1)` (R91, R92, R95, R97, R99). -/
def ldAFrom (a : Word) (c : Nat) (s : State) : Host.Outcome State Fault Refusal :=
  done c (s.setR8 .a (s.busRead a))

/-- `MemWrite(a, 1, A)` (R93, R94, R96, R98, R100). -/
def ldATo (a : Word) (c : Nat) (s : State) : Host.Outcome State Fault Refusal :=
  done c (s.busWrite a (s.r8 .a))

/-- LD (HL+),A and LD (HL-),A (R101, R102): store A at HL, then move HL by `step` modulo 2^16. -/
def ldAToHLThen (step : Word) (s : State) : Host.Outcome State Fault Refusal :=
  done 8 ((s.setAtHL (s.r8 .a)).setHl (s.hl + step))

/-- LD A,(HL+) and LD A,(HL-) (R103, R104): load A from HL, then move HL by `step` modulo 2^16. -/
def ldAFromHLThen (step : Word) (s : State) : Host.Outcome State Fault Refusal :=
  done 8 ((s.setR8 .a s.atHL).setHl (s.hl + step))

/-- LD (BC),A (R93). -/
@[reducible] def execLdAtBCA (s : State) : Host.Outcome State Fault Refusal := ldATo (s.r16 .bc) 8 s

/-- LD B,n8 (R87). -/
@[reducible] def execLdBN8 (n : Byte) (s : State) : Host.Outcome State Fault Refusal := ldImm .b n s

/-- LD A,(BC) (R91). -/
@[reducible] def execLdAAtBC (s : State) : Host.Outcome State Fault Refusal :=
  ldAFrom (s.r16 .bc) 8 s

/-- LD C,n8 (R87). -/
@[reducible] def execLdCN8 (n : Byte) (s : State) : Host.Outcome State Fault Refusal := ldImm .c n s

/-- LD (DE),A (R94). -/
@[reducible] def execLdAtDEA (s : State) : Host.Outcome State Fault Refusal := ldATo (s.r16 .de) 8 s

/-- LD D,n8 (R87). -/
@[reducible] def execLdDN8 (n : Byte) (s : State) : Host.Outcome State Fault Refusal := ldImm .d n s

/-- LD A,(DE) (R92). -/
@[reducible] def execLdAAtDE (s : State) : Host.Outcome State Fault Refusal :=
  ldAFrom (s.r16 .de) 8 s

/-- LD E,n8 (R87). -/
@[reducible] def execLdEN8 (n : Byte) (s : State) : Host.Outcome State Fault Refusal := ldImm .e n s

/-- LD (HL+),A (R101). -/
@[reducible] def execLdAtHLIA (s : State) : Host.Outcome State Fault Refusal := ldAToHLThen 1 s

/-- LD H,n8 (R87). -/
@[reducible] def execLdHN8 (n : Byte) (s : State) : Host.Outcome State Fault Refusal := ldImm .h n s

/-- LD A,(HL+) (R103). -/
@[reducible] def execLdAAtHLI (s : State) : Host.Outcome State Fault Refusal := ldAFromHLThen 1 s

/-- LD L,n8 (R87). -/
@[reducible] def execLdLN8 (n : Byte) (s : State) : Host.Outcome State Fault Refusal := ldImm .l n s

/-- LD (HL-),A (R102). -/
@[reducible] def execLdAtHLDA (s : State) : Host.Outcome State Fault Refusal := ldAToHLThen (-1) s

/-- LD (HL),n8 (R90). -/
@[reducible] def execLdAtHLN8 (n : Byte) (s : State) : Host.Outcome State Fault Refusal :=
  done 12 (s.setAtHL n)

/-- LD A,(HL-) (R104). -/
@[reducible] def execLdAAtHLD (s : State) : Host.Outcome State Fault Refusal := ldAFromHLThen (-1) s

/-- LD A,n8 (R87). -/
@[reducible] def execLdAN8 (n : Byte) (s : State) : Host.Outcome State Fault Refusal := ldImm .a n s

/-- LD B,B (R86). -/
@[reducible] def execLdBB (s : State) : Host.Outcome State Fault Refusal := ldReg .b .b s

/-- LD B,C (R86). -/
@[reducible] def execLdBC (s : State) : Host.Outcome State Fault Refusal := ldReg .b .c s

/-- LD B,D (R86). -/
@[reducible] def execLdBD (s : State) : Host.Outcome State Fault Refusal := ldReg .b .d s

/-- LD B,E (R86). -/
@[reducible] def execLdBE (s : State) : Host.Outcome State Fault Refusal := ldReg .b .e s

/-- LD B,H (R86). -/
@[reducible] def execLdBH (s : State) : Host.Outcome State Fault Refusal := ldReg .b .h s

/-- LD B,L (R86). -/
@[reducible] def execLdBL (s : State) : Host.Outcome State Fault Refusal := ldReg .b .l s

/-- LD B,(HL) (R88). -/
@[reducible] def execLdBAtHL (s : State) : Host.Outcome State Fault Refusal := ldFromHL .b s

/-- LD B,A (R86). -/
@[reducible] def execLdBA (s : State) : Host.Outcome State Fault Refusal := ldReg .b .a s

/-- LD C,B (R86). -/
@[reducible] def execLdCB (s : State) : Host.Outcome State Fault Refusal := ldReg .c .b s

/-- LD C,C (R86). -/
@[reducible] def execLdCC (s : State) : Host.Outcome State Fault Refusal := ldReg .c .c s

/-- LD C,D (R86). -/
@[reducible] def execLdCD (s : State) : Host.Outcome State Fault Refusal := ldReg .c .d s

/-- LD C,E (R86). -/
@[reducible] def execLdCE (s : State) : Host.Outcome State Fault Refusal := ldReg .c .e s

/-- LD C,H (R86). -/
@[reducible] def execLdCH (s : State) : Host.Outcome State Fault Refusal := ldReg .c .h s

/-- LD C,L (R86). -/
@[reducible] def execLdCL (s : State) : Host.Outcome State Fault Refusal := ldReg .c .l s

/-- LD C,(HL) (R88). -/
@[reducible] def execLdCAtHL (s : State) : Host.Outcome State Fault Refusal := ldFromHL .c s

/-- LD C,A (R86). -/
@[reducible] def execLdCA (s : State) : Host.Outcome State Fault Refusal := ldReg .c .a s

/-- LD D,B (R86). -/
@[reducible] def execLdDB (s : State) : Host.Outcome State Fault Refusal := ldReg .d .b s

/-- LD D,C (R86). -/
@[reducible] def execLdDC (s : State) : Host.Outcome State Fault Refusal := ldReg .d .c s

/-- LD D,D (R86). -/
@[reducible] def execLdDD (s : State) : Host.Outcome State Fault Refusal := ldReg .d .d s

/-- LD D,E (R86). -/
@[reducible] def execLdDE (s : State) : Host.Outcome State Fault Refusal := ldReg .d .e s

/-- LD D,H (R86). -/
@[reducible] def execLdDH (s : State) : Host.Outcome State Fault Refusal := ldReg .d .h s

/-- LD D,L (R86). -/
@[reducible] def execLdDL (s : State) : Host.Outcome State Fault Refusal := ldReg .d .l s

/-- LD D,(HL) (R88). -/
@[reducible] def execLdDAtHL (s : State) : Host.Outcome State Fault Refusal := ldFromHL .d s

/-- LD D,A (R86). -/
@[reducible] def execLdDA (s : State) : Host.Outcome State Fault Refusal := ldReg .d .a s

/-- LD E,B (R86). -/
@[reducible] def execLdEB (s : State) : Host.Outcome State Fault Refusal := ldReg .e .b s

/-- LD E,C (R86). -/
@[reducible] def execLdEC (s : State) : Host.Outcome State Fault Refusal := ldReg .e .c s

/-- LD E,D (R86). -/
@[reducible] def execLdED (s : State) : Host.Outcome State Fault Refusal := ldReg .e .d s

/-- LD E,E (R86). -/
@[reducible] def execLdEE (s : State) : Host.Outcome State Fault Refusal := ldReg .e .e s

/-- LD E,H (R86). -/
@[reducible] def execLdEH (s : State) : Host.Outcome State Fault Refusal := ldReg .e .h s

/-- LD E,L (R86). -/
@[reducible] def execLdEL (s : State) : Host.Outcome State Fault Refusal := ldReg .e .l s

/-- LD E,(HL) (R88). -/
@[reducible] def execLdEAtHL (s : State) : Host.Outcome State Fault Refusal := ldFromHL .e s

/-- LD E,A (R86). -/
@[reducible] def execLdEA (s : State) : Host.Outcome State Fault Refusal := ldReg .e .a s

/-- LD H,B (R86). -/
@[reducible] def execLdHB (s : State) : Host.Outcome State Fault Refusal := ldReg .h .b s

/-- LD H,C (R86). -/
@[reducible] def execLdHC (s : State) : Host.Outcome State Fault Refusal := ldReg .h .c s

/-- LD H,D (R86). -/
@[reducible] def execLdHD (s : State) : Host.Outcome State Fault Refusal := ldReg .h .d s

/-- LD H,E (R86). -/
@[reducible] def execLdHE (s : State) : Host.Outcome State Fault Refusal := ldReg .h .e s

/-- LD H,H (R86). -/
@[reducible] def execLdHH (s : State) : Host.Outcome State Fault Refusal := ldReg .h .h s

/-- LD H,L (R86). -/
@[reducible] def execLdHL (s : State) : Host.Outcome State Fault Refusal := ldReg .h .l s

/-- LD H,(HL) (R88). -/
@[reducible] def execLdHAtHL (s : State) : Host.Outcome State Fault Refusal := ldFromHL .h s

/-- LD H,A (R86). -/
@[reducible] def execLdHA (s : State) : Host.Outcome State Fault Refusal := ldReg .h .a s

/-- LD L,B (R86). -/
@[reducible] def execLdLB (s : State) : Host.Outcome State Fault Refusal := ldReg .l .b s

/-- LD L,C (R86). -/
@[reducible] def execLdLC (s : State) : Host.Outcome State Fault Refusal := ldReg .l .c s

/-- LD L,D (R86). -/
@[reducible] def execLdLD (s : State) : Host.Outcome State Fault Refusal := ldReg .l .d s

/-- LD L,E (R86). -/
@[reducible] def execLdLE (s : State) : Host.Outcome State Fault Refusal := ldReg .l .e s

/-- LD L,H (R86). -/
@[reducible] def execLdLH (s : State) : Host.Outcome State Fault Refusal := ldReg .l .h s

/-- LD L,L (R86). -/
@[reducible] def execLdLL (s : State) : Host.Outcome State Fault Refusal := ldReg .l .l s

/-- LD L,(HL) (R88). -/
@[reducible] def execLdLAtHL (s : State) : Host.Outcome State Fault Refusal := ldFromHL .l s

/-- LD L,A (R86). -/
@[reducible] def execLdLA (s : State) : Host.Outcome State Fault Refusal := ldReg .l .a s

/-- LD (HL),B (R89). -/
@[reducible] def execLdAtHLB (s : State) : Host.Outcome State Fault Refusal := ldToHL .b s

/-- LD (HL),C (R89). -/
@[reducible] def execLdAtHLC (s : State) : Host.Outcome State Fault Refusal := ldToHL .c s

/-- LD (HL),D (R89). -/
@[reducible] def execLdAtHLD (s : State) : Host.Outcome State Fault Refusal := ldToHL .d s

/-- LD (HL),E (R89). -/
@[reducible] def execLdAtHLE (s : State) : Host.Outcome State Fault Refusal := ldToHL .e s

/-- LD (HL),H (R89). -/
@[reducible] def execLdAtHLH (s : State) : Host.Outcome State Fault Refusal := ldToHL .h s

/-- LD (HL),L (R89). -/
@[reducible] def execLdAtHLL (s : State) : Host.Outcome State Fault Refusal := ldToHL .l s

/-- LD (HL),A (R89). -/
@[reducible] def execLdAtHLA (s : State) : Host.Outcome State Fault Refusal := ldToHL .a s

/-- LD A,B (R86). -/
@[reducible] def execLdAB (s : State) : Host.Outcome State Fault Refusal := ldReg .a .b s

/-- LD A,C (R86). -/
@[reducible] def execLdAC (s : State) : Host.Outcome State Fault Refusal := ldReg .a .c s

/-- LD A,D (R86). -/
@[reducible] def execLdAD (s : State) : Host.Outcome State Fault Refusal := ldReg .a .d s

/-- LD A,E (R86). -/
@[reducible] def execLdAE (s : State) : Host.Outcome State Fault Refusal := ldReg .a .e s

/-- LD A,H (R86). -/
@[reducible] def execLdAH (s : State) : Host.Outcome State Fault Refusal := ldReg .a .h s

/-- LD A,L (R86). -/
@[reducible] def execLdAL (s : State) : Host.Outcome State Fault Refusal := ldReg .a .l s

/-- LD A,(HL) (R88). -/
@[reducible] def execLdAAtHL (s : State) : Host.Outcome State Fault Refusal := ldFromHL .a s

/-- LD A,A (R86). -/
@[reducible] def execLdAA (s : State) : Host.Outcome State Fault Refusal := ldReg .a .a s

/-- LDH (a8),A (R98). -/
@[reducible] def execLdhAtA8A (n : Byte) (s : State) : Host.Outcome State Fault Refusal :=
  ldATo (highPage n) 12 s

/-- LD (C),A (R100). -/
@[reducible] def execLdAtCA (s : State) : Host.Outcome State Fault Refusal :=
  ldATo (highPage (s.r8 .c)) 8 s

/-- LD (a16),A (R96). -/
@[reducible] def execLdAtA16A (a : Word) (s : State) : Host.Outcome State Fault Refusal :=
  ldATo a 16 s

/-- LDH A,(a8) (R97). -/
@[reducible] def execLdhAAtA8 (n : Byte) (s : State) : Host.Outcome State Fault Refusal :=
  ldAFrom (highPage n) 12 s

/-- LD A,(C) (R99). -/
@[reducible] def execLdAAtC (s : State) : Host.Outcome State Fault Refusal :=
  ldAFrom (highPage (s.r8 .c)) 8 s

/-- LD A,(a16) (R95). -/
@[reducible] def execLdAAtA16 (a : Word) (s : State) : Host.Outcome State Fault Refusal :=
  ldAFrom a 16 s

end Sys2Proof.Machine
end

