-- ==== Sys2Proof/Machine/RotateShift.lean ====
section
/-! DEFINITION. The rotate and shift instructions (44_rotate_shift.md R149 to R169). -/

namespace Sys2Proof.Machine

/-- RLCA, RRCA, RLA, RRA (R149 to R152): the rotate on A with Z = 0 whatever the result; 4 cycles. -/
def rotA (op : RotOp) (s : State) : Host.Outcome State Fault Refusal :=
  let o := rotOut op (s.r8 .a) s.flagC
  done 4 ((s.setR8 .a o.r).flags false false false o.c)

/-- The register forms of the CB page, 8 cycles (R153). -/
def rotReg (op : RotOp) (r : R8) (s : State) : Host.Outcome State Fault Refusal :=
  let o := rotOut op (s.r8 r) s.flagC
  done 8 ((s.setR8 r o.r).setFlags o)

/-- The (HL) forms of the CB page: one read, one write, 16 cycles (R153). -/
def rotMem (op : RotOp) (s : State) : Host.Outcome State Fault Refusal :=
  let o := rotOut op s.atHL s.flagC
  done 16 ((s.setAtHL o.r).setFlags o)

/-- RLCA (R149). -/
@[reducible] def execRlca (s : State) : Host.Outcome State Fault Refusal := rotA .rlc s

/-- RRCA (R150). -/
@[reducible] def execRrca (s : State) : Host.Outcome State Fault Refusal := rotA .rrc s

/-- RLA (R151). -/
@[reducible] def execRla (s : State) : Host.Outcome State Fault Refusal := rotA .rl s

/-- RRA (R152). -/
@[reducible] def execRra (s : State) : Host.Outcome State Fault Refusal := rotA .rr s

/-- RLC B (R154). -/
@[reducible] def execRlcB (s : State) : Host.Outcome State Fault Refusal := rotReg .rlc .b s

/-- RLC C (R154). -/
@[reducible] def execRlcC (s : State) : Host.Outcome State Fault Refusal := rotReg .rlc .c s

/-- RLC D (R154). -/
@[reducible] def execRlcD (s : State) : Host.Outcome State Fault Refusal := rotReg .rlc .d s

/-- RLC E (R154). -/
@[reducible] def execRlcE (s : State) : Host.Outcome State Fault Refusal := rotReg .rlc .e s

/-- RLC H (R154). -/
@[reducible] def execRlcH (s : State) : Host.Outcome State Fault Refusal := rotReg .rlc .h s

/-- RLC L (R154). -/
@[reducible] def execRlcL (s : State) : Host.Outcome State Fault Refusal := rotReg .rlc .l s

/-- RLC (HL) (R155). -/
@[reducible] def execRlcAtHL (s : State) : Host.Outcome State Fault Refusal := rotMem .rlc s

/-- RLC A (R154). -/
@[reducible] def execRlcA (s : State) : Host.Outcome State Fault Refusal := rotReg .rlc .a s

/-- RRC B (R156). -/
@[reducible] def execRrcB (s : State) : Host.Outcome State Fault Refusal := rotReg .rrc .b s

/-- RRC C (R156). -/
@[reducible] def execRrcC (s : State) : Host.Outcome State Fault Refusal := rotReg .rrc .c s

/-- RRC D (R156). -/
@[reducible] def execRrcD (s : State) : Host.Outcome State Fault Refusal := rotReg .rrc .d s

/-- RRC E (R156). -/
@[reducible] def execRrcE (s : State) : Host.Outcome State Fault Refusal := rotReg .rrc .e s

/-- RRC H (R156). -/
@[reducible] def execRrcH (s : State) : Host.Outcome State Fault Refusal := rotReg .rrc .h s

/-- RRC L (R156). -/
@[reducible] def execRrcL (s : State) : Host.Outcome State Fault Refusal := rotReg .rrc .l s

/-- RRC (HL) (R157). -/
@[reducible] def execRrcAtHL (s : State) : Host.Outcome State Fault Refusal := rotMem .rrc s

/-- RRC A (R156). -/
@[reducible] def execRrcA (s : State) : Host.Outcome State Fault Refusal := rotReg .rrc .a s

/-- RL B (R158). -/
@[reducible] def execRlB (s : State) : Host.Outcome State Fault Refusal := rotReg .rl .b s

/-- RL C (R158). -/
@[reducible] def execRlC (s : State) : Host.Outcome State Fault Refusal := rotReg .rl .c s

/-- RL D (R158). -/
@[reducible] def execRlD (s : State) : Host.Outcome State Fault Refusal := rotReg .rl .d s

/-- RL E (R158). -/
@[reducible] def execRlE (s : State) : Host.Outcome State Fault Refusal := rotReg .rl .e s

/-- RL H (R158). -/
@[reducible] def execRlH (s : State) : Host.Outcome State Fault Refusal := rotReg .rl .h s

/-- RL L (R158). -/
@[reducible] def execRlL (s : State) : Host.Outcome State Fault Refusal := rotReg .rl .l s

/-- RL (HL) (R159). -/
@[reducible] def execRlAtHL (s : State) : Host.Outcome State Fault Refusal := rotMem .rl s

/-- RL A (R158). -/
@[reducible] def execRlA (s : State) : Host.Outcome State Fault Refusal := rotReg .rl .a s

/-- RR B (R160). -/
@[reducible] def execRrB (s : State) : Host.Outcome State Fault Refusal := rotReg .rr .b s

/-- RR C (R160). -/
@[reducible] def execRrC (s : State) : Host.Outcome State Fault Refusal := rotReg .rr .c s

/-- RR D (R160). -/
@[reducible] def execRrD (s : State) : Host.Outcome State Fault Refusal := rotReg .rr .d s

/-- RR E (R160). -/
@[reducible] def execRrE (s : State) : Host.Outcome State Fault Refusal := rotReg .rr .e s

/-- RR H (R160). -/
@[reducible] def execRrH (s : State) : Host.Outcome State Fault Refusal := rotReg .rr .h s

/-- RR L (R160). -/
@[reducible] def execRrL (s : State) : Host.Outcome State Fault Refusal := rotReg .rr .l s

/-- RR (HL) (R161). -/
@[reducible] def execRrAtHL (s : State) : Host.Outcome State Fault Refusal := rotMem .rr s

/-- RR A (R160). -/
@[reducible] def execRrA (s : State) : Host.Outcome State Fault Refusal := rotReg .rr .a s

/-- SLA B (R162). -/
@[reducible] def execSlaB (s : State) : Host.Outcome State Fault Refusal := rotReg .sla .b s

/-- SLA C (R162). -/
@[reducible] def execSlaC (s : State) : Host.Outcome State Fault Refusal := rotReg .sla .c s

/-- SLA D (R162). -/
@[reducible] def execSlaD (s : State) : Host.Outcome State Fault Refusal := rotReg .sla .d s

/-- SLA E (R162). -/
@[reducible] def execSlaE (s : State) : Host.Outcome State Fault Refusal := rotReg .sla .e s

/-- SLA H (R162). -/
@[reducible] def execSlaH (s : State) : Host.Outcome State Fault Refusal := rotReg .sla .h s

/-- SLA L (R162). -/
@[reducible] def execSlaL (s : State) : Host.Outcome State Fault Refusal := rotReg .sla .l s

/-- SLA (HL) (R163). -/
@[reducible] def execSlaAtHL (s : State) : Host.Outcome State Fault Refusal := rotMem .sla s

/-- SLA A (R162). -/
@[reducible] def execSlaA (s : State) : Host.Outcome State Fault Refusal := rotReg .sla .a s

/-- SRA B (R164). -/
@[reducible] def execSraB (s : State) : Host.Outcome State Fault Refusal := rotReg .sra .b s

/-- SRA C (R164). -/
@[reducible] def execSraC (s : State) : Host.Outcome State Fault Refusal := rotReg .sra .c s

/-- SRA D (R164). -/
@[reducible] def execSraD (s : State) : Host.Outcome State Fault Refusal := rotReg .sra .d s

/-- SRA E (R164). -/
@[reducible] def execSraE (s : State) : Host.Outcome State Fault Refusal := rotReg .sra .e s

/-- SRA H (R164). -/
@[reducible] def execSraH (s : State) : Host.Outcome State Fault Refusal := rotReg .sra .h s

/-- SRA L (R164). -/
@[reducible] def execSraL (s : State) : Host.Outcome State Fault Refusal := rotReg .sra .l s

/-- SRA (HL) (R165). -/
@[reducible] def execSraAtHL (s : State) : Host.Outcome State Fault Refusal := rotMem .sra s

/-- SRA A (R164). -/
@[reducible] def execSraA (s : State) : Host.Outcome State Fault Refusal := rotReg .sra .a s

/-- SWAP B (R166). -/
@[reducible] def execSwapB (s : State) : Host.Outcome State Fault Refusal := rotReg .swap .b s

/-- SWAP C (R166). -/
@[reducible] def execSwapC (s : State) : Host.Outcome State Fault Refusal := rotReg .swap .c s

/-- SWAP D (R166). -/
@[reducible] def execSwapD (s : State) : Host.Outcome State Fault Refusal := rotReg .swap .d s

/-- SWAP E (R166). -/
@[reducible] def execSwapE (s : State) : Host.Outcome State Fault Refusal := rotReg .swap .e s

/-- SWAP H (R166). -/
@[reducible] def execSwapH (s : State) : Host.Outcome State Fault Refusal := rotReg .swap .h s

/-- SWAP L (R166). -/
@[reducible] def execSwapL (s : State) : Host.Outcome State Fault Refusal := rotReg .swap .l s

/-- SWAP (HL) (R167). -/
@[reducible] def execSwapAtHL (s : State) : Host.Outcome State Fault Refusal := rotMem .swap s

/-- SWAP A (R166). -/
@[reducible] def execSwapA (s : State) : Host.Outcome State Fault Refusal := rotReg .swap .a s

/-- SRL B (R168). -/
@[reducible] def execSrlB (s : State) : Host.Outcome State Fault Refusal := rotReg .srl .b s

/-- SRL C (R168). -/
@[reducible] def execSrlC (s : State) : Host.Outcome State Fault Refusal := rotReg .srl .c s

/-- SRL D (R168). -/
@[reducible] def execSrlD (s : State) : Host.Outcome State Fault Refusal := rotReg .srl .d s

/-- SRL E (R168). -/
@[reducible] def execSrlE (s : State) : Host.Outcome State Fault Refusal := rotReg .srl .e s

/-- SRL H (R168). -/
@[reducible] def execSrlH (s : State) : Host.Outcome State Fault Refusal := rotReg .srl .h s

/-- SRL L (R168). -/
@[reducible] def execSrlL (s : State) : Host.Outcome State Fault Refusal := rotReg .srl .l s

/-- SRL (HL) (R169). -/
@[reducible] def execSrlAtHL (s : State) : Host.Outcome State Fault Refusal := rotMem .srl s

/-- SRL A (R168). -/
@[reducible] def execSrlA (s : State) : Host.Outcome State Fault Refusal := rotReg .srl .a s

end Sys2Proof.Machine
end

