-- ==== Sys2Proof/Machine/CpuControl.lean ====
section
/-! DEFINITION. CPU control, accumulator and flag instructions, the CB prefix and the unrecognized opcodes
(47_cpu_control.md R189 to R200). -/

namespace Sys2Proof.Machine

/-- An unrecognized opcode (R199, R200): the diagnostic with the address of the opcode byte, nothing else
under Lenient, the Locked run-state under Lock; `C_ILLEGAL` cycles. -/
def unrecognized (op : Byte) (s : State) : Host.Outcome State Fault Refusal :=
  let s1 := s.diagnose (.unrecognizedOpcode (s.regs.pc - 1) op)
  done cIllegal
    (match s.cfg.illegalOpcodeMode with
    | .lenient => s1
    | .lock => { s1 with run := .locked })

/-- The CB-page instruction op2 (R81), from the fields of op2. -/
def runCB (op2 : Byte) (s : State) : Host.Outcome State Fault Refusal :=
  match fieldX op2, R8.ofField (fieldZ op2) with
  | 0, some r => rotReg (RotOp.ofField (fieldY op2)) r s
  | 0, none => rotMem (RotOp.ofField (fieldY op2)) s
  | 1, some r => bitReg (bitField (fieldY op2)) r s
  | 1, none => bitMem (bitField (fieldY op2)) s
  | 2, some r => resReg (bitField (fieldY op2)) r s
  | 2, none => resMem (bitField (fieldY op2)) s
  | _, some r => setReg (bitField (fieldY op2)) r s
  | _, none => setMem (bitField (fieldY op2)) s

/-- The effect of DAA (R194) on A and the flags. -/
def State.adjustDecimal (s : State) : State :=
  let o := daaOut s.regs.a s.flagN s.flagH s.flagC
  (s.setR8 .a o.r).setFlags o

/-- NOP (R189). -/
@[reducible] def execNop (s : State) : Host.Outcome State Fault Refusal := done 4 s

/-- STOP (R191). The byte after the opcode was fetched and is ignored (D13). -/
@[reducible] def execStop (_n : Byte) (s : State) : Host.Outcome State Fault Refusal :=
  done 4 { s with run := .stopped }

/-- DAA (R194). -/
@[reducible] def execDaa (s : State) : Host.Outcome State Fault Refusal := done 4 (s.adjustDecimal)

/-- CPL (R195). -/
@[reducible] def execCpl (s : State) : Host.Outcome State Fault Refusal :=
  done 4 ((s.setR8 .a (s.r8 .a ^^^ 0xFF)).flags s.flagZ true true s.flagC)

/-- SCF (R196). -/
@[reducible] def execScf (s : State) : Host.Outcome State Fault Refusal :=
  done 4 (s.flags s.flagZ false false true)

/-- CCF (R197). -/
@[reducible] def execCcf (s : State) : Host.Outcome State Fault Refusal :=
  done 4 (s.flags s.flagZ false false (!s.flagC))

/-- HALT (R190). PC stays at the byte after HALT (D12: no HALT bug). -/
@[reducible] def execHalt (s : State) : Host.Outcome State Fault Refusal :=
  done 4 { s with run := .halted }

/-- PREFIX CB (R198). PC is past the prefix byte: op2 is fetched at PC and the CB-page instruction op2
runs. -/
@[reducible] def execPrefixCB (s : State) : Host.Outcome State Fault Refusal :=
  runCB (s.busRead s.regs.pc) (s.setPc (s.regs.pc + 1))

/-- The unrecognized opcode 0xD3 (R199, R200). -/
@[reducible] def execIllegalD3 (s : State) : Host.Outcome State Fault Refusal := unrecognized 0xD3 s

/-- The unrecognized opcode 0xDB (R199, R200). -/
@[reducible] def execIllegalDB (s : State) : Host.Outcome State Fault Refusal := unrecognized 0xDB s

/-- The unrecognized opcode 0xDD (R199, R200). -/
@[reducible] def execIllegalDD (s : State) : Host.Outcome State Fault Refusal := unrecognized 0xDD s

/-- The unrecognized opcode 0xE3 (R199, R200). -/
@[reducible] def execIllegalE3 (s : State) : Host.Outcome State Fault Refusal := unrecognized 0xE3 s

/-- The unrecognized opcode 0xE4 (R199, R200). -/
@[reducible] def execIllegalE4 (s : State) : Host.Outcome State Fault Refusal := unrecognized 0xE4 s

/-- The unrecognized opcode 0xEB (R199, R200). -/
@[reducible] def execIllegalEB (s : State) : Host.Outcome State Fault Refusal := unrecognized 0xEB s

/-- The unrecognized opcode 0xEC (R199, R200). -/
@[reducible] def execIllegalEC (s : State) : Host.Outcome State Fault Refusal := unrecognized 0xEC s

/-- The unrecognized opcode 0xED (R199, R200). -/
@[reducible] def execIllegalED (s : State) : Host.Outcome State Fault Refusal := unrecognized 0xED s

/-- DI (R192). -/
@[reducible] def execDi (s : State) : Host.Outcome State Fault Refusal :=
  done 4 { s with ime := false, imePending := false }

/-- The unrecognized opcode 0xF4 (R199, R200). -/
@[reducible] def execIllegalF4 (s : State) : Host.Outcome State Fault Refusal := unrecognized 0xF4 s

/-- EI (R193). IME is not written here: the step commits the pending enable (R204). -/
@[reducible] def execEi (s : State) : Host.Outcome State Fault Refusal :=
  done 4 { s with imePending := true }

/-- The unrecognized opcode 0xFC (R199, R200). -/
@[reducible] def execIllegalFC (s : State) : Host.Outcome State Fault Refusal := unrecognized 0xFC s

/-- The unrecognized opcode 0xFD (R199, R200). -/
@[reducible] def execIllegalFD (s : State) : Host.Outcome State Fault Refusal := unrecognized 0xFD s

end Sys2Proof.Machine
end

