-- ==== Sys2Proof/Machine/Load16.lean ====
section
/-! DEFINITION. The 16-bit loads, PUSH and POP (41_load16.md R105 to R112). -/

namespace Sys2Proof.Machine

/-- LD rr,n16 (R105): `x[rr] <- n`, 12 cycles. -/
def ldPair (rr : R16) (n : Word) (s : State) : Host.Outcome State Fault Refusal := done 12 (s.setR16 rr n)

/-- The value of a pair of the `r16stk` field (R109, R110). -/
def State.stkPair (s : State) (rr : R16Stk) : Word := s.regs.getStk rr

/-- A pair of the `r16stk` field written (R111, R112). -/
def State.setStkPair (s : State) (rr : R16Stk) (v : Word) : State := { s with regs := s.regs.putStk rr v }

/-- PUSH (R109, R110): `push16(x[rr])`, 16 cycles. -/
def pushPair (rr : R16Stk) (s : State) : Host.Outcome State Fault Refusal := done 16 (s.push16 (s.stkPair rr))

/-- POP (R111, R112): `x[rr] <- pop16()`, 12 cycles. -/
def popPair (rr : R16Stk) (s : State) : Host.Outcome State Fault Refusal :=
  done 12 (s.dropTop.setStkPair rr s.stackTop)

/-- LD BC,n16 (R105). -/
@[reducible] def execLdBCN16 (n : Word) (s : State) : Host.Outcome State Fault Refusal :=
  ldPair .bc n s

/-- LD (a16),SP (R106). The low byte goes to a16 first, then the high byte to a16 + 1. -/
@[reducible] def execLdAtA16SP (a : Word) (s : State) : Host.Outcome State Fault Refusal :=
  done 20 (s.busWrite16 a s.regs.sp)

/-- LD DE,n16 (R105). -/
@[reducible] def execLdDEN16 (n : Word) (s : State) : Host.Outcome State Fault Refusal :=
  ldPair .de n s

/-- LD HL,n16 (R105). -/
@[reducible] def execLdHLN16 (n : Word) (s : State) : Host.Outcome State Fault Refusal :=
  ldPair .hl n s

/-- LD SP,n16 (R105). -/
@[reducible] def execLdSPN16 (n : Word) (s : State) : Host.Outcome State Fault Refusal :=
  ldPair .sp n s

/-- POP BC (R111). -/
@[reducible] def execPopBC (s : State) : Host.Outcome State Fault Refusal := popPair .bc s

/-- PUSH BC (R109). -/
@[reducible] def execPushBC (s : State) : Host.Outcome State Fault Refusal := pushPair .bc s

/-- POP DE (R111). -/
@[reducible] def execPopDE (s : State) : Host.Outcome State Fault Refusal := popPair .de s

/-- PUSH DE (R109). -/
@[reducible] def execPushDE (s : State) : Host.Outcome State Fault Refusal := pushPair .de s

/-- POP HL (R111). -/
@[reducible] def execPopHL (s : State) : Host.Outcome State Fault Refusal := popPair .hl s

/-- PUSH HL (R109). -/
@[reducible] def execPushHL (s : State) : Host.Outcome State Fault Refusal := pushPair .hl s

/-- POP AF (R112). -/
@[reducible] def execPopAF (s : State) : Host.Outcome State Fault Refusal := popPair .af s

/-- PUSH AF (R110). -/
@[reducible] def execPushAF (s : State) : Host.Outcome State Fault Refusal := pushPair .af s

/-- LD HL,SP+e8 (R108). -/
@[reducible] def execLdHLSPE8 (e : Byte) (s : State) : Host.Outcome State Fault Refusal :=
  done 12 ((s.setHl (spAdd s.regs.sp e)).flags false false (spAddH s.regs.sp e) (spAddC s.regs.sp e))

/-- LD SP,HL (R107). -/
@[reducible] def execLdSPHL (s : State) : Host.Outcome State Fault Refusal := done 8 (s.setSp s.hl)

end Sys2Proof.Machine
end

