-- ==== Sys2Proof/Machine/Step.lean ====
section
/-! DEFINITION. One machine step (60_exceptions.md R204, R232), and how a program's first instruction is
put where a step fetches it. -/

namespace Sys2Proof.Machine

/-- `Machine.step()` (R232): the prelude of the CPU step, its one branch (R204), then the timer and the
PPU. The value it returns to the host is `State.cycles` of the next state. -/
def step (s : State) : Host.Outcome State Fault Refusal :=
  match s.prelude.stepKind with
  | .wait cost => .next (s.prelude.finishWait cost)
  | .interrupt i => .next (s.prelude.finishInterrupt i)
  | .execute =>
    match exec s.prelude.fetchInstr s.prelude.afterFetch with
    | .next t => .next (s.prelude.finishInstr t)
    | .fault r => .fault r
    | .refused r => .refused r

/-- The state with an instruction, given as a word of spec/opcode_table.json (`tableBytes`), stored at PC,
so that the next step fetches and runs it. -/
def State.withFetchWord (s : State) (nbits w : Nat) : State := s.placeProgram (tableBytes nbits w)

end Sys2Proof.Machine
end

