-- ==== Sys2Proof/Machine/Construct.lean ====
section
/-! DEFINITION. Construction of a session, the only reset (70_reset_and_hazards.md R235 to R238), for
every choice of the OPEN parameters (R7), and what the host may do between steps (60_exceptions.md R225,
R233). -/

namespace Sys2Proof.Machine

/-- ROM_IMAGE as the host supplies it (R235). -/
inductive RomInput where
  | missing
  | unreadable
  | image (rom : Image)
deriving DecidableEq, Repr

/-- What the host supplies at construction (R7, R233). -/
structure SessionInputs where
  rom : RomInput
  /-- BOOT_IMAGE; a missing or an empty image leaves the overlay inactive (R235, D55). -/
  boot : Option Image
  /-- EXT_RAM_SIZE where the host gives one, else the default of R7 for the type byte (D28). -/
  extRamSize : Option Nat
  /-- EXT_RAM_INIT: its bytes that are not zero (D29). -/
  extRamInit : Memory
  /-- MEM_INIT: its bytes that are not zero (D31). -/
  memInit : Memory
  cfg : Config
deriving DecidableEq, Repr

/-- The default EXT_RAM_SIZE of a type byte (R7, D28). -/
def defaultExtRamSize (t : Byte) : Nat := if t = 0x02 ∨ t = 0x03 then 0x8000 else 0

/-- The inputs of R7 are legal: sizes and contents fit, EXT_RAM_SIZE is 0 or a positive multiple of
0x2000, MEM_INIT has 65,536 bytes. -/
abbrev SessionInputs.legal (i : SessionInputs) (rom : Image) : Prop :=
  rom.wf ∧ 0 < rom.size ∧ (∀ b ∈ i.boot, b.wf) ∧
  (i.extRamSize.getD (defaultExtRamSize (cartTypeByte rom))) % 0x2000 = 0 ∧
  i.extRamInit.wf ∧ i.extRamInit.below (i.extRamSize.getD (defaultExtRamSize (cartTypeByte rom))) ∧
  i.memInit.wf ∧ i.memInit.below 0x10000

/-- The ROM the session is built from, or the fatal `LoadError` (R235 (1)). -/
def SessionInputs.loadRom (i : SessionInputs) : Except Fault Image :=
  match i.rom with
  | .missing => .error (.loadError .missingRom)
  | .unreadable => .error (.loadError .unreadableRom)
  | .image rom => if rom.size = 0 then .error (.loadError .emptyRom) else .ok rom

/-- The cartridge at construction (R40, R49, R235 (2)). -/
def SessionInputs.cart (i : SessionInputs) (rom : Image) : Cart where
  rom := rom
  kind := cartKindOf rom
  eram := ⟨i.extRamSize.getD (defaultExtRamSize (cartTypeByte rom)), i.extRamInit⟩
  ramEnable := false
  bankLo := 1
  bankHi := 0
  ramBank := 0
  bankMode := false

/-- The diagnostics of construction (R49, R235 (2)). -/
def constructionDiagnostics (rom : Image) : List Diagnostic :=
  if knownCartKind (cartTypeByte rom) = none then [.unknownCartridgeType (cartTypeByte rom)] else []

/-- The boot image of a session, empty when there is none (R235 (3), D55). -/
def SessionInputs.bootImage (i : SessionInputs) : Image := i.boot.getD ⟨0, []⟩

/-- The session after construction with a ROM (R235, R236). -/
def SessionInputs.build (i : SessionInputs) (rom : Image) : State where
  regs := if i.bootImage.size = 0 then Regs.resetNoBoot else Regs.resetBoot
  ime := false
  imePending := false
  run := .running
  mem := i.memInit
  boot := i.bootImage
  bootActive := i.bootImage.size != 0
  joypSelect := 0
  buttons := 0
  cart := i.cart rom
  timer := ⟨0, 0⟩
  ppu := { ly := 0, dot := 0, mode := .oamSearch, fb := blankFrame }
  out := { totalCycles := 0, trace := [], diagnostics := constructionDiagnostics rom, serial := [], frames := 0 }
  cycles := 0
  cfg := i.cfg

/-- Construction, power-on reset and reload (R235, D51): a state, or the fatal `LoadError`. -/
def State.construct (i : SessionInputs) : Except Fault State :=
  match i.loadRom with
  | .error r => .error r
  | .ok rom => .ok (i.build rom)

/-- The inputs whose every OPEN parameter is at its default (R7), with the ROM given. -/
def SessionInputs.defaults (rom : Image) : SessionInputs where
  rom := .image rom
  boot := none
  extRamSize := none
  extRamInit := []
  memInit := []
  cfg := Config.default

/-- A memory from a list of addresses and bytes. -/
def Memory.ofCells (cells : List Host.Cell) : Memory := cells.foldl (fun m c => m.write c.1 c.2) []

/-- The alternative MEM_INIT of R238: what the DMG's boot ROM leaves in the I/O bytes. It leaves OBP0 and
OBP1 unset, so they are arguments (I20). JOYP reads 0xCF from `joyp_select` = 0b00. -/
def postBootMemInit (obp0 obp1 : Byte) : Memory :=
  Memory.ofCells
    [(0xFF01, 0x00), (0xFF02, 0x7E), (0xFF04, 0xAB), (0xFF05, 0x00), (0xFF06, 0x00), (0xFF07, 0xF8),
      (0xFF0F, 0xE1), (0xFF40, 0x91), (0xFF41, 0x85), (0xFF42, 0x00), (0xFF43, 0x00), (0xFF44, 0x00),
      (0xFF45, 0x00), (0xFF46, 0xFF), (0xFF47, 0xFC), (0xFF48, obp0), (0xFF49, obp1), (0xFF4A, 0x00),
      (0xFF4B, 0x00), (0xFFFF, 0x00)]

/-- The host writes the button state between steps (R30, R225). -/
def State.setButtons (s : State) (buttons : Byte) : State := { s with buttons := buttons }

end Sys2Proof.Machine
end

