-- ==== Sys2Proof/WellFormed.lean ====
section
/-! DEFINITION. What a term of `Instr` must satisfy to be a complete instruction of the instruction
stream. Operand ranges need no check: every operand is a bit vector of exactly its field's width (R79). -/

namespace Sys2Proof

/-- Whether the term is the prefix byte taken without the byte after it (R73). -/
def Instr.isBarePrefix (i : Instr) : Bool := i == .prefixCB

/-- A complete instruction: every instruction but the bare prefix, which is one only "with the byte after
it" (R73, R198). -/
def Instr.wellFormed (i : Instr) : Bool := !i.isBarePrefix

end Sys2Proof
end

