-- ==== Sys2Proof/Safety.lean ====
section
/-! DEFINITION. The terms the statements are made in: the invariant of the machine, the end of a run
(R234), which stores leave every other address reading as before, the operands of the instruction groups,
and the values of the rules in plain integers. -/

namespace Sys2Proof.Machine

/-- The memories are in canonical form and inside their sizes (R7, R27, R31). -/
abbrev State.memoriesOk (s : State) : Prop :=
  s.mem.wf ∧ s.mem.below 0x10000 ∧ s.boot.wf ∧ s.cart.rom.wf ∧ s.cart.eram.wf

/-- The cartridge is one that construction and MBC1 writes leave (R31, R49, R54, D28): a ROM of at least
one byte, the controller of its type byte, a nonzero low bank number, whole RAM banks. -/
abbrev State.cartOk (s : State) : Prop :=
  0 < s.cart.rom.size ∧ s.cart.kind = cartKindOf s.cart.rom ∧ s.cart.bankLo ≠ 0 ∧ s.cart.eram.size % 0x2000 = 0

/-- The counters are in the ranges the manual gives them after a step (R32, R33). -/
abbrev State.countersOk (s : State) : Prop :=
  s.timer.divAcc < 256 ∧ s.ppu.ly < 154 ∧ s.ppu.dot < 456 ∧ s.ppu.mode = ppuModeAt s.ppu.ly s.ppu.dot

/-- The CPU and boot state is legal: F bits 3..0 are zero (R20), Locked occurs under Lock only (R25), the
overlay is active only with a boot image (R29). -/
abbrev State.cpuOk (s : State) : Prop :=
  s.regs.f &&& 0x0F = 0 ∧ (s.run = .locked → s.cfg.illegalOpcodeMode = .lock) ∧
  (s.bootActive = true → 0 < s.boot.size)

/-- The invariant of the machine. -/
abbrev State.Inv (s : State) : Prop := s.memoriesOk ∧ s.cartOk ∧ s.countersOk ∧ s.cpuOk

/-- The devices count the same cycles as the machine (R32, R33, R34, R215, R216): the divider's residue is
`total_cycles` modulo 256, and the PPU's place in the frame is `total_cycles` modulo 70224. -/
abbrev State.clockOk (s : State) : Prop :=
  s.timer.divAcc = s.out.totalCycles % 256 ∧ s.ppu.ly * 456 + s.ppu.dot = s.out.totalCycles % 70224

/-- The CPU makes no further progress: Stopped or Locked (R231). -/
abbrev State.stuck (s : State) : Prop := s.run = .stopped ∨ s.run = .locked

/-- A run is finished (R234, D54): stuck, or at a `JR` to itself with IME = 0 or nothing enabled. -/
abbrev State.finished (s : State) : Prop :=
  s.stuck ∨ (s.fetchInstr = .jrE8 0xFE ∧ (s.ime = false ∨ s.raw ioIe &&& 0x1F = 0))

/-- Nothing but the CPU registers and the cost differs: memory, the interrupt enables, the run-state, the
cartridge, the devices, the channels and the parameters are the same. -/
abbrev State.onlyRegs (s t : State) : Prop := t = { s with regs := t.regs, cycles := t.cycles }

/-- Nothing differs but what a bus write can reach (R47): the backing array, the overlay switch, the joypad
selection, the cartridge apart from its ROM, controller and RAM size, and the serial channel. -/
abbrev State.onlyBus (s t : State) : Prop :=
  t = { s with
    mem := t.mem
    bootActive := t.bootActive
    joypSelect := t.joypSelect
    cart := { t.cart with rom := s.cart.rom, kind := s.cart.kind, eram := ⟨s.cart.eram.size, t.cart.eram.cells⟩ }
    out := { s.out with serial := t.out.serial } }

/-- A store of `v` at `a` changes no read of another address: it is dropped by the overlay, or it is
outside the cartridge (whose control registers move banks), starts no DMA, and does not end the overlay
(R47). -/
abbrev State.localStore (s : State) (a : Word) (v : Byte) : Prop :=
  s.overlaid a = true ∨
    (inCartWindow a = false ∧ a ≠ ioDma ∧ (a = ioBoot → v = 0 ∨ s.bootActive = false))

/-- Every byte of memory outside the listed addresses reads in `t` as in `s`. -/
abbrev State.readsSameExcept (s t : State) (stored : List Word) : Prop :=
  ∀ x : Word, x ∉ stored → t.busRead x = s.busRead x

/-- The state after a store of `v` at `a`, with the registers and the cost given. -/
def State.afterStore (s : State) (a : Word) (v : Byte) (g : Regs) (c : Nat) : State :=
  { s.busWrite a v with regs := g, cycles := c }

/-- An answer of an instruction that stores `v` at `a` and nothing else (R47): the next state is the one the
bus write leaves, with the registers `g` and the cost `c`; only what a bus write can reach differs; and
after a local store every other address reads as before. -/
abbrev State.stores (s : State) (r : Result State) (a : Word) (v : Byte) (g : Regs) (c : Nat) : Prop :=
  r = .next (s.afterStore a v g c) ∧ s.onlyBus (s.afterStore a v s.regs s.cycles) ∧
    (s.localStore a v → s.readsSameExcept (s.afterStore a v g c) [a])

/-- The state after a store of `v1` at `a1` and then of `v2` at `a2`. -/
def State.afterStores (s : State) (a1 : Word) (v1 : Byte) (a2 : Word) (v2 : Byte) (g : Regs) (c : Nat) : State :=
  { (s.busWrite a1 v1).busWrite a2 v2 with regs := g, cycles := c }

/-- `State.stores` for an instruction that stores two bytes, in this order (R11, R13). -/
abbrev State.storesTwo (s : State) (r : Result State) (a1 : Word) (v1 : Byte) (a2 : Word) (v2 : Byte) (g : Regs)
    (c : Nat) : Prop :=
  r = .next (s.afterStores a1 v1 a2 v2 g c) ∧ s.onlyBus (s.afterStores a1 v1 a2 v2 s.regs s.cycles) ∧
    (s.localStore a1 v1 → (s.busWrite a1 v1).localStore a2 v2 →
      s.readsSameExcept (s.afterStores a1 v1 a2 v2 g c) [a1, a2])

/-- `v[15:8]`. -/
abbrev upper (v : Word) : Byte := v.extractLsb' 8 8
/-- `v[7:0]`. -/
abbrev lower (v : Word) : Byte := v.extractLsb' 0 8

/-- The value of F with the given flags, bits 3..0 zero (R20). -/
def flagsValue (z n h c : Bool) : Nat := 128 * z.toNat + 64 * n.toNat + 32 * h.toNat + 16 * c.toNat

/-- The source operand of an 8-bit load or ALU instruction (R75, R79): a register, the byte at HL, an
immediate. -/
inductive ByteSource where
  | reg (r : R8)
  | atHL
  | imm (n : Byte)
deriving DecidableEq, Repr

/-- The value of the operand. -/
def ByteSource.value (src : ByteSource) (s : State) : Byte :=
  match src with
  | .reg r => s.regs.get r
  | .atHL => s.busRead (s.regs.h ++ s.regs.l)
  | .imm n => n

/-- The cost of the form: 4 cycles on a register, 8 with a memory access or an immediate (R243). -/
def ByteSource.cost : ByteSource → Nat
  | .reg _ => 4
  | .atHL => 8
  | .imm _ => 8

/-- LD r with this source (R86 to R88). -/
def ByteSource.load (src : ByteSource) (r : R8) : Instr :=
  match src with
  | .reg r' => .ld8 r r'
  | .atHL => .ld8FromHL r
  | .imm n => .ld8Imm r n

/-- The ALU instruction with this source (R114 to R137). -/
def ByteSource.alu (src : ByteSource) (op : AluOp) : Instr :=
  match src with
  | .reg r => .alu op r
  | .atHL => .aluHL op
  | .imm n => .aluImm op n

/-- The operand of an instruction that reads a byte and may write it back (R75): a register or the byte at
HL. -/
inductive ByteOperand where
  | reg (r : R8)
  | atHL
deriving DecidableEq, Repr

/-- The value of the operand. -/
def ByteOperand.value (o : ByteOperand) (s : State) : Byte :=
  match o with
  | .reg r => s.regs.get r
  | .atHL => s.busRead (s.regs.h ++ s.regs.l)

/-- One cost for a register and another for the byte at HL. -/
def ByteOperand.cost (o : ByteOperand) (onReg onHL : Nat) : Nat :=
  match o with
  | .reg _ => onReg
  | .atHL => onHL

/-- An answer of an instruction that writes `v` back to its operand and `f` to F, and nothing else. -/
def ByteOperand.wroteBack (o : ByteOperand) (s : State) (r : Result State) (v f : Byte) (c : Nat) : Prop :=
  match o with
  | .reg x => r = .next { s with regs := { s.regs.put x v with f := f }, cycles := c }
  | .atHL => s.stores r (s.regs.h ++ s.regs.l) v { s.regs with f := f } c

/-- INC on the operand (R138, R139). -/
def ByteOperand.inc : ByteOperand → Instr
  | .reg r => .inc8 r
  | .atHL => .incAtHL

/-- DEC on the operand (R140, R141). -/
def ByteOperand.dec : ByteOperand → Instr
  | .reg r => .dec8 r
  | .atHL => .decAtHL

/-- A CB-page rotate or shift on the operand (R154 to R169). -/
def ByteOperand.rot (o : ByteOperand) (op : RotOp) : Instr :=
  match o with
  | .reg r => .rot op r
  | .atHL => .rotHL op

/-- BIT on the operand (R170, R171). -/
def ByteOperand.bit (o : ByteOperand) (b : Fin 8) : Instr :=
  match o with
  | .reg r => .bit b r
  | .atHL => .bitHL b

/-- RES on the operand (R172, R173). -/
def ByteOperand.res (o : ByteOperand) (b : Fin 8) : Instr :=
  match o with
  | .reg r => .res b r
  | .atHL => .resHL b

/-- SET on the operand (R174, R175). -/
def ByteOperand.set (o : ByteOperand) (b : Fin 8) : Instr :=
  match o with
  | .reg r => .set b r
  | .atHL => .setHL b

/-- The rotates and shifts in integers (R149 to R168): the result of the byte `v` with the carry `c`, and
the new carry. -/
def rotateValue (op : RotOp) (v c : Nat) : Nat × Bool :=
  match op with
  | .rlc => ((2 * v + v / 128) % 256, decide (128 ≤ v))
  | .rrc => (v / 2 + 128 * (v % 2), decide (v % 2 = 1))
  | .rl => ((2 * v + c) % 256, decide (128 ≤ v))
  | .rr => (v / 2 + 128 * c, decide (v % 2 = 1))
  | .sla => (2 * v % 256, decide (128 ≤ v))
  | .sra => (v / 2 + 128 * (v / 128), decide (v % 2 = 1))
  | .swap => (v % 16 * 16 + v / 16, false)
  | .srl => (v / 2, decide (v % 2 = 1))

/-- The number of a register in the `r8` field (R75). -/
def r8Code : R8 → Nat
  | .b => 0
  | .c => 1
  | .d => 2
  | .e => 3
  | .h => 4
  | .l => 5
  | .a => 7

/-- The number of an operand in the `r8` field (R75): 6 is the byte at HL. -/
def ByteOperand.code : ByteOperand → Nat
  | .reg r => r8Code r
  | .atHL => 6

/-- The number in the `r16` field (R76). -/
def r16Code : R16 → Nat
  | .bc => 0
  | .de => 1
  | .hl => 2
  | .sp => 3

/-- The number in the `r16stk` field (R77). -/
def r16StkCode : R16Stk → Nat
  | .bc => 0
  | .de => 1
  | .hl => 2
  | .af => 3

/-- The number in the `cc` field (R78). -/
def ccCode : Cond → Nat
  | .nz => 0
  | .z => 1
  | .nc => 2
  | .c => 3

/-- The `y` of an ALU row of the base page (R80). -/
def aluCode : AluOp → Nat
  | .add => 0
  | .adc => 1
  | .sub => 2
  | .sbc => 3
  | .and => 4
  | .xor => 5
  | .or => 6
  | .cp => 7

/-- The `y` of a rotate or shift row of the CB page (R81). -/
def rotCode : RotOp → Nat
  | .rlc => 0
  | .rrc => 1
  | .rl => 2
  | .rr => 3
  | .sla => 4
  | .sra => 5
  | .swap => 6
  | .srl => 7

/-- The opcode byte of an unrecognized opcode (R82), `none` for an instruction. -/
def unrecognizedByte : Instr → Option Byte
  | .illegalD3 => some 0xD3
  | .illegalDB => some 0xDB
  | .illegalDD => some 0xDD
  | .illegalE3 => some 0xE3
  | .illegalE4 => some 0xE4
  | .illegalEB => some 0xEB
  | .illegalEC => some 0xEC
  | .illegalED => some 0xED
  | .illegalF4 => some 0xF4
  | .illegalFC => some 0xFC
  | .illegalFD => some 0xFD
  | _ => none

/-- The eleven opcodes of R82. -/
def unrecognizedOpcodes : List Byte :=
  [0xD3, 0xDB, 0xDD, 0xE3, 0xE4, 0xEB, 0xEC, 0xED, 0xF4, 0xFC, 0xFD]

/-- The opcodes followed by one operand byte: the formats `op_n8`, `op_a8` and `op_e8` (R73, R80). -/
def byteOperandOpcodes : List Byte :=
  [0x06, 0x0E, 0x10, 0x16, 0x18, 0x1E, 0x20, 0x26, 0x28, 0x2E, 0x30, 0x36, 0x38, 0x3E, 0xC6, 0xCE, 0xD6, 0xDE,
    0xE0, 0xE6, 0xE8, 0xEE, 0xF0, 0xF6, 0xF8, 0xFE]

/-- The opcodes followed by two operand bytes: the formats `op_n16` and `op_a16` (R73, R80). -/
def halfwordOperandOpcodes : List Byte :=
  [0x01, 0x08, 0x11, 0x21, 0x31, 0xC2, 0xC3, 0xC4, 0xCA, 0xCC, 0xCD, 0xD2, 0xD4, 0xDA, 0xDC, 0xEA, 0xFA]

/-- The rows of the base page below 0x80 whose opcode has no operand field, and RET, RETI, JP HL and LD SP,HL,
written out from R80. -/
def singleWordsLow : List (List Byte × Instr) := [
  ([0x00], .nop), ([0x08, 0x34, 0x12], .ldAtA16SP 0x1234), ([0x10, 0x00], .stop 0x00), ([0x18, 0xFE], .jrE8 0xFE),
  ([0x02], .ldAtBCA), ([0x12], .ldAtDEA), ([0x22], .ldAtHLIA), ([0x32], .ldAtHLDA),
  ([0x0A], .ldAAtBC), ([0x1A], .ldAAtDE), ([0x2A], .ldAAtHLI), ([0x3A], .ldAAtHLD),
  ([0x36, 0x5A], .ldAtHLN8 0x5A), ([0x07], .rlca), ([0x0F], .rrca), ([0x17], .rla), ([0x1F], .rra),
  ([0x27], .daa), ([0x2F], .cpl), ([0x37], .scf), ([0x3F], .ccf), ([0x76], .halt),
  ([0xC9], .ret), ([0xD9], .reti), ([0xE9], .jpHL), ([0xF9], .ldSPHL)]

/-- The other rows of the base page whose opcode has no operand field (R80), the bare prefix (R73) among them. -/
def singleWordsHigh : List (List Byte × Instr) := [
  ([0xC3, 0x50, 0x01], .jpA16 0x0150), ([0xCD, 0x00, 0x02], .callA16 0x0200),
  ([0xE0, 0x80], .ldhAtA8A 0x80), ([0xF0, 0x44], .ldhAAtA8 0x44), ([0xE2], .ldAtCA), ([0xF2], .ldAAtC),
  ([0xEA, 0x00, 0xC0], .ldAtA16A 0xC000), ([0xFA, 0x01, 0xC0], .ldAAtA16 0xC001),
  ([0xE8, 0xFE], .addSPE8 0xFE), ([0xF8, 0x02], .ldHLSPE8 0x02), ([0xF3], .di), ([0xFB], .ei), ([0xCB], .prefixCB)]

/-- Samples of the rows with operand fields (R80, R81). -/
def sampleWords : List (List Byte × Instr) := [
  ([0x41], .ldBC), ([0x3E, 0x7F], .ldAN8 0x7F), ([0x21, 0x00, 0xC0], .ldHLN16 0xC000), ([0xF5], .pushAF),
  ([0x9C], .sbcAH), ([0xFE, 0x3C], .cpN8 0x3C), ([0x35], .decAtHL), ([0x39], .addHLSP), ([0xCB, 0x37], .swapA),
  ([0xCB, 0x46], .bit0AtHL), ([0xCB, 0xBF], .res7A), ([0x20, 0xFC], .jrNZE8 0xFC),
  ([0xDC, 0x00, 0x02], .callCA16 0x0200), ([0xEF], .rst28)]

/-- The eleven unrecognized opcodes (R82). -/
def unrecognizedWords : List (List Byte × Instr) := [
  ([0xD3], .illegalD3), ([0xDB], .illegalDB), ([0xDD], .illegalDD), ([0xE3], .illegalE3), ([0xE4], .illegalE4),
  ([0xEB], .illegalEB), ([0xEC], .illegalEC), ([0xED], .illegalED), ([0xF4], .illegalF4), ([0xFC], .illegalFC), ([0xFD], .illegalFD)]

/-- The words written out, each with its instruction. -/
def writtenOutWords : List (List Byte × Instr) :=
  singleWordsLow ++ singleWordsHigh ++ sampleWords ++ unrecognizedWords

/-- Two decimal digits in BCD (R194). -/
def bcd (x : Nat) : Byte := BitVec.ofNat 8 (x / 10 * 16 + x % 10)

/-- The colour index of a tile pixel in integers (R220): two bit planes, bit 7 the leftmost column. -/
def pixelValue (m : Memory) (base row col : Nat) : Nat :=
  2 * ((m.read (base + 2 * row + 1)).toNat / 2 ^ (7 - col) % 2) + (m.read (base + 2 * row)).toNat / 2 ^ (7 - col) % 2

/-- The colour index at a row and column of the tile map at `map`, in integers (R220): the tile number, its
address by LCDC bit 4, its pixel. -/
def mapValue (m : Memory) (map row col : Nat) : Nat :=
  let t := (m.read (map + row / 8 * 32 + col / 8)).toNat
  let unsignedTiles := (m.read 0xFF40).toNat / 16 % 2 = 1
  pixelValue m (if unsignedTiles then 0x8000 + 16 * t else if t < 128 then 0x9000 + 16 * t else 0x8000 + 16 * t)
    (row % 8) (col % 8)

/-- `(pal >> 2i) & 3` in integers (R220). -/
def shadeValue (pal i : Nat) : Nat := pal / 4 ^ i % 4

/-- The colour index of the window or the background at a column of a line, `none` where neither is drawn
(R220, R221): the window where LCDC bit 5 is 1, from line WY and column WX - 7 on; else the background, scrolled
modulo 256, where LCDC bit 0 is 1. -/
def behindValue (m : Memory) (ly x : Nat) : Option Nat :=
  let lcdc := (m.read 0xFF40).toNat
  let wy := (m.read 0xFF4A).toNat
  let wx := (m.read 0xFF4B).toNat
  if lcdc / 32 % 2 = 1 ∧ wy ≤ ly ∧ wx ≤ x + 7 then
    some (mapValue m (if lcdc / 64 % 2 = 1 then 0x9C00 else 0x9800) (ly - wy) (x + 7 - wx))
  else if lcdc % 2 = 1 then
    some (mapValue m (if lcdc / 8 % 2 = 1 then 0x9C00 else 0x9800)
      ((ly + (m.read 0xFF42).toNat) % 256) ((x + (m.read 0xFF43).toNat) % 256))
  else none

/-- The shade of that index through BGP, 0 where neither is drawn (R220). -/
def behindShadeValue (m : Memory) (ly x : Nat) : Nat :=
  match behindValue m ly x with
  | some i => shadeValue (m.read 0xFF47).toNat i
  | none => 0

/-- Byte `k` of OAM entry `n` (R222): Y, X, tile, attributes. -/
def oamValue (m : Memory) (n k : Nat) : Nat := (m.read (0xFE00 + 4 * n + k)).toNat

/-- The height of the sprites (R222): 16 where LCDC bit 2 is 1, else 8. -/
def heightValue (m : Memory) : Nat := if (m.read 0xFF40).toNat / 4 % 2 = 1 then 16 else 8

/-- Sprite `n` meets the line (R222): `Y - 16 <= ly < Y - 16 + h`. -/
def spriteMeets (m : Memory) (ly n : Nat) : Prop :=
  (oamValue m n 0 : Int) - 16 ≤ ly ∧ (ly : Int) < (oamValue m n 0 : Int) - 16 + heightValue m

/-- What sprite `n`, on the line, paints at column `x`, in integers (R222): within its eight columns from
`X - 8`, both flips applied, the low bit of the tile number dropped at height 16, from the tiles at 0x8000;
nothing for index 0, nor, with attribute bit 7, over a nonzero index behind it; through OBP0 or OBP1. -/
def spriteValue (m : Memory) (ly x n : Nat) : Option Nat :=
  let attr := oamValue m n 3
  let p : Int := (x : Int) - ((oamValue m n 1 : Int) - 8)
  let row : Int := (ly : Int) - ((oamValue m n 0 : Int) - 16)
  let tile := if heightValue m = 16 then oamValue m n 2 / 2 * 2 else oamValue m n 2
  let i := pixelValue m (0x8000 + 16 * tile)
    (if attr / 64 % 2 = 1 then heightValue m - 1 - row else row).toNat (if attr / 32 % 2 = 1 then 7 - p else p).toNat
  if 0 ≤ p ∧ p < 8 ∧ i ≠ 0 ∧ ¬(attr / 128 % 2 = 1 ∧ (behindValue m ly x).getD 0 ≠ 0) then
    some (shadeValue (m.read (if attr / 16 % 2 = 1 then 0xFF49 else 0xFF48)).toNat i)
  else none

/-- The I/O bytes the renderer reads (R223): LCDC, SCY, SCX, BGP, OBP0, OBP1, WY, WX. -/
def rendererRegisters : List Nat := [0xFF40, 0xFF42, 0xFF43, 0xFF47, 0xFF48, 0xFF49, 0xFF4A, 0xFF4B]

/-- X and index order of two sprites (R222): `n` is drawn over `k`. -/
def spriteOver (m : Memory) (n k : Nat) : Prop :=
  oamValue m n 1 < oamValue m k 1 ∨ (oamValue m n 1 = oamValue m k 1 ∧ n < k)

end Sys2Proof.Machine
end

