-- ==== Sys2Proof/Certificates/Slice0/Obligations.lean ====
section
/-! DEFINITION. The statements for the provers, in the order of OBLIGATIONS.json. -/

open Sys2Proof Sys2Proof.Machine

/-- O1. Every row of the opcode table by its word. The rows whose opcode has no operand field, the eleven
unrecognized opcodes and samples of the others, written out from the tables of R80 and R81 with immediates low byte
first, decode to their instructions; the words of every group of instructions are given by the numbers of their
operand fields, the CB page among them (R73, R75 to R82). -/
def Obligations.TableWordsDecode : Prop :=
  (∀ p ∈ writtenOutWords, decode p.1 = .ok p.2) ∧
  ∀ (r r' : R8) (o : ByteOperand) (rr : R16) (q : R16Stk) (cc : Cond) (op : AluOp) (rop : RotOp) (b y : Fin 8)
    (n : Byte) (v : Word),
    let word (i : Instr) (bytes : List Nat) : Prop := encode i = bytes.map (BitVec.ofNat 8)
    let lo := v.toNat % 256
    let hi := v.toNat / 256
    word (.ld8 r r') [0x40 + 8 * r8Code r + r8Code r'] ∧
    word (.ld8FromHL r) [0x46 + 8 * r8Code r] ∧
    word (.ld8ToHL r) [0x70 + r8Code r] ∧
    word (.ld8Imm r n) [0x06 + 8 * r8Code r, n.toNat] ∧
    word (.alu op r) [0x80 + 8 * aluCode op + r8Code r] ∧
    word (.aluHL op) [0x86 + 8 * aluCode op] ∧
    word (.aluImm op n) [0xC6 + 8 * aluCode op, n.toNat] ∧
    word o.inc [0x04 + 8 * o.code] ∧
    word o.dec [0x05 + 8 * o.code] ∧
    word (o.rot rop) [0xCB, 8 * rotCode rop + o.code] ∧
    word (o.bit b) [0xCB, 0x40 + 8 * b.val + o.code] ∧
    word (o.res b) [0xCB, 0x80 + 8 * b.val + o.code] ∧
    word (o.set b) [0xCB, 0xC0 + 8 * b.val + o.code] ∧
    word (.ld16Imm rr v) [0x01 + 16 * r16Code rr, lo, hi] ∧
    word (.push q) [0xC5 + 16 * r16StkCode q] ∧
    word (.pop q) [0xC1 + 16 * r16StkCode q] ∧
    word (.addHL rr) [0x09 + 16 * r16Code rr] ∧
    word (.inc16 rr) [0x03 + 16 * r16Code rr] ∧
    word (.dec16 rr) [0x0B + 16 * r16Code rr] ∧
    word (.jpIf cc v) [0xC2 + 8 * ccCode cc, lo, hi] ∧
    word (.jrIf cc n) [0x20 + 8 * ccCode cc, n.toNat] ∧
    word (.callIf cc v) [0xC4 + 8 * ccCode cc, lo, hi] ∧
    word (.retIf cc) [0xC0 + 8 * ccCode cc] ∧
    word (.rst y) [0xC7 + 8 * y.val]

/-- O2. Decoding inverts encoding, whatever follows; the length is the one the first byte tells; a list that
ends inside an instruction is rejected by name, the two bytes of the CB page apart (R73, R79, R80, R81, R84). -/
def Obligations.DecodeInvertsEncode : Prop :=
  ∀ i : Instr, i.wellFormed = true →
    (encode i).length = lengthOf ((encode i).headD 0) ∧
    (∀ rest, decode (encode i ++ rest) = .ok i) ∧
    ∀ k, 0 < k → k < (encode i).length → (encode i).headD 0 ≠ 0xCB →
      decode ((encode i).take k) = .error (.truncated ((encode i).headD 0))

/-- O3. Encoding inverts decoding: every byte sequence decodes to a well-formed instruction whose encoding is
its own first bytes, so no two sequences share an instruction and no bit is dropped (R80 to R84). -/
def Obligations.EncodeInvertsDecode : Prop :=
  ∀ b0 b1 b2 : Byte,
    (decode3 b0 b1 b2).wellFormed = true ∧ encode (decode3 b0 b1 b2) = [b0, b1, b2].take (lengthOf b0)

/-- O4. The length from the first byte alone, format by format, and the eleven opcodes that are no
instructions, each one byte long (R73, R82, R84). -/
def Obligations.LengthAndUnrecognizedOpcodes : Prop :=
  ∀ b0 b1 b2 : Byte,
    lengthOf b0 =
      (if b0 = 0xCB ∨ b0 ∈ byteOperandOpcodes then 2 else if b0 ∈ halfwordOperandOpcodes then 3 else 1) ∧
    unrecognizedByte (decode3 b0 b1 b2) = if b0 ∈ unrecognizedOpcodes then some b0 else none

/-- O5. A step that executes runs the instruction the bytes at PC decode to, with PC past it, then commits a
pending enable, advances the devices by the cost and appends the trace (R12, R24, R204, R229, R232). Of a Running
CPU with nothing to commit the prelude changes nothing, and it executes if there is nothing to dispatch. -/
def Obligations.StepRunsDecodedInstruction : Prop :=
  (∀ (s : State) (i : Instr), s.prelude.stepKind = .execute →
    decode [s.busRead s.regs.pc, s.busRead (s.regs.pc + 1), s.busRead (s.regs.pc + 2)] = .ok i →
    step s =
      match exec i { s.prelude with
        regs := { s.regs with pc := s.regs.pc + BitVec.ofNat 16 (encode i).length } } with
      | .next t => .next (s.prelude.traceStep (s.prelude.commitAfter t).advanceDevices)
      | .fault r => .fault r
      | .refused r => .refused r) ∧
  (∀ s : State, decode [s.busRead s.regs.pc, s.busRead (s.regs.pc + 1), s.busRead (s.regs.pc + 2)] =
    .ok s.fetchInstr) ∧
  ∀ s : State, s.run = .running → (s.cfg.eiCommit = .afterNextInstruction ∨ s.imePending = false) →
    s.prelude = s ∧ (s.ime = false ∨ s.pending = 0 → s.prelude.stepKind = .execute)

/-- O6. No synchronous exception exists: every instruction and every step answers a next state, in every state
(R202). -/
def Obligations.EveryStepAnswersNext : Prop :=
  (∀ (i : Instr) (s : State), ∃ t, exec i s = .next t) ∧ ∀ s : State, ∃ t, step s = .next t

/-- O7. The state at reset meets the invariants, is what construction gives for the defaults, and has in every
field the value R37 to R41 and R7 give without a boot image. The 32 KiB of zero bytes it has for a ROM and the 0
in `cycles` are the model's choice (log entries 1 and 5). -/
def Obligations.ResetMeetsInvariant : Prop :=
  State.reset.Inv ∧ State.reset.clockOk ∧
    State.construct (.defaults ⟨0x8000, []⟩) = .ok State.reset ∧
    State.reset.regs =
      { a := 0x01, f := 0xB0, b := 0x00, c := 0x13, d := 0x00, e := 0xD8, h := 0x01, l := 0x4D, sp := 0xFFFE,
        pc := 0x0100 } ∧
    State.reset.ime = false ∧ State.reset.imePending = false ∧ State.reset.run = .running ∧
    (∀ a : Word, State.reset.raw a = 0) ∧
    State.reset.boot = ⟨0, []⟩ ∧ State.reset.bootActive = false ∧
    State.reset.joypSelect = 0 ∧ State.reset.buttons = 0 ∧
    State.reset.cart =
      { rom := ⟨0x8000, []⟩, kind := .noMbc, eram := ⟨0, []⟩, ramEnable := false, bankLo := 1, bankHi := 0,
        ramBank := 0, bankMode := false } ∧
    State.reset.timer = { divAcc := 0, timaAcc := 0 } ∧
    State.reset.ppu.ly = 0 ∧ State.reset.ppu.dot = 0 ∧ State.reset.ppu.mode = .oamSearch ∧
    (∀ (y : Fin 144) (x : Fin 160), State.reset.ppu.fb[y][x] = 0) ∧
    State.reset.out = { totalCycles := 0, trace := [], diagnostics := [], serial := [], frames := 0 } ∧
    State.reset.cycles = 0 ∧
    State.reset.cfg =
      { illegalOpcodeMode := .lenient, eiCommit := .afterNextInstruction, divWriteReset := false,
        traceEnabled := false }

/-- O8. Every step keeps the invariant: memories in canonical form and inside their sizes, the low bank number
nonzero (R54), the counters in range and the mode the one of the dot (R32, R33, R216), F's low bits zero (R20),
Locked only under Lock (R25), the overlay only with a boot image (R29). -/
def Obligations.StepKeepsInvariant : Prop :=
  ∀ s t : State, s.Inv → step s = .next t → t.Inv

/-- O9. Every step keeps the clocks together: the divider's residue and the PPU's place in the frame are those
of `total_cycles` (R32, R33, R34, R214, R216, R217, R232). -/
def Obligations.StepKeepsClocksTogether : Prop :=
  ∀ s t : State, s.clockOk → step s = .next t → t.clockOk

/-- O10. Construction with legal inputs gives a session that meets the invariants (R7, R235). -/
def Obligations.ConstructionMeetsInvariant : Prop :=
  ∀ (i : SessionInputs) (rom : Image), i.rom = .image rom → i.legal rom →
    ∃ s, State.construct i = .ok s ∧ s.Inv ∧ s.clockOk

/-- O11. What construction leaves in every piece of state, and that a missing, unreadable or empty ROM is a
load error (R7, R29, R37 to R41, R49, R235, R236). The 0 in `cycles`, a field the manual does not have, is the
model's choice (log entry 5). -/
def Obligations.ConstructionValues : Prop :=
  (∀ (i : SessionInputs) (rom : Image), i.rom = .image rom → 0 < rom.size →
    ∃ s, State.construct i = .ok s ∧
      s.regs =
        (if (i.boot.getD ⟨0, []⟩).size = 0 then
          { a := 0x01, f := 0xB0, b := 0x00, c := 0x13, d := 0x00, e := 0xD8, h := 0x01, l := 0x4D,
            sp := 0xFFFE, pc := 0x0100 }
        else { a := 0, f := 0, b := 0, c := 0, d := 0, e := 0, h := 0, l := 0, sp := 0, pc := 0 }) ∧
      s.ime = false ∧ s.imePending = false ∧ s.run = .running ∧
      s.mem = i.memInit ∧ s.boot = i.boot.getD ⟨0, []⟩ ∧ s.bootActive = decide ((i.boot.getD ⟨0, []⟩).size ≠ 0) ∧
      s.joypSelect = 0 ∧ s.buttons = 0 ∧
      s.cart.rom = rom ∧ s.cart.kind = (if rom.size ≤ 0x147 then .noMbc
        else if rom.read 0x147 ∈ ([1, 2, 3] : List Byte) then .mbc1 else .noMbc) ∧
      s.cart.eram.size = i.extRamSize.getD
        (if 0x147 < rom.size ∧ rom.read 0x147 ∈ ([2, 3] : List Byte) then 0x8000 else 0) ∧
      s.cart.eram.cells = i.extRamInit ∧ s.cart.ramEnable = false ∧ s.cart.bankLo = 1 ∧ s.cart.bankHi = 0 ∧
      s.cart.ramBank = 0 ∧ s.cart.bankMode = false ∧
      s.timer.divAcc = 0 ∧ s.timer.timaAcc = 0 ∧ s.ppu.ly = 0 ∧ s.ppu.dot = 0 ∧ s.ppu.mode = .oamSearch ∧
      (∀ (y : Fin 144) (x : Fin 160), s.ppu.fb[y][x] = 0) ∧
      s.out.totalCycles = 0 ∧ s.out.trace = [] ∧ s.out.serial = [] ∧ s.out.frames = 0 ∧
      s.out.diagnostics =
        (if 0x147 < rom.size ∧ rom.read 0x147 ∉ ([0, 1, 2, 3] : List Byte) then
          [.unknownCartridgeType (rom.read 0x147)] else []) ∧
      s.cycles = 0 ∧ s.cfg = i.cfg) ∧
  ∀ i : SessionInputs,
    (i.rom = .missing → State.construct i = .error (.loadError .missingRom)) ∧
    (i.rom = .unreadable → State.construct i = .error (.loadError .unreadableRom)) ∧
    ∀ rom, i.rom = .image rom → rom.size = 0 → State.construct i = .error (.loadError .emptyRom)

/-- O12. No step changes the ROM, the controller, the size of the external RAM, the boot image, the host's
buttons or the parameters (R7, R29, R30, R31, R49, R51). -/
def Obligations.StepNeverChangesInputs : Prop :=
  ∀ s t : State, step s = .next t →
    t.cart.rom = s.cart.rom ∧ t.cart.kind = s.cart.kind ∧ t.cart.eram.size = s.cart.eram.size ∧
      t.boot = s.boot ∧ t.buttons = s.buttons ∧ t.cfg = s.cfg

/-- O13. A write to 0xFF50 stores the byte and, if it is nonzero, ends the overlay for the rest of the session,
and changes nothing else; no write and no step brings the overlay back (R61). -/
def Obligations.BootDisableIsPermanent : Prop :=
  (∀ (s : State) (v : Byte),
    (s.busWrite 0xFF50 v).busRead 0xFF50 = v ∧
      s.busWrite 0xFF50 v = { s with
        mem := s.mem.write 0xFF50 v
        bootActive := if v = 0 then s.bootActive else false }) ∧
  (∀ (s : State) (a : Word) (v : Byte), s.bootActive = false → (s.busWrite a v).bootActive = false) ∧
  ∀ s t : State, s.bootActive = false → step s = .next t → t.bootActive = false

/-- O14. Interrupt entry, in order: the request bit cleared without a bus write, IME and the pending enable
cleared, the high byte of PC written at SP - 1, the low byte at SP - 2, SP 2 lower, PC at the vector, 20 cycles;
nothing else is saved; then the devices advance. A requested and enabled V-Blank with IME = 1 is entered by the
very next step, of a Running or a Halted CPU (R210). -/
def Obligations.InterruptEntry : Prop :=
  (∀ (s : State) (i : Interrupt), s.prelude.stepKind = .interrupt i →
    step s = .next
      { ((s.prelude.setRaw 0xFF0F (s.raw 0xFF0F &&& ~~~ (1#8 <<< i.bit))).busWrite (s.regs.sp - 1)
          (upper s.regs.pc)).busWrite (s.regs.sp - 2) (lower s.regs.pc) with
        regs := { s.regs with sp := s.regs.sp - 2, pc := i.vector }
        ime := false
        imePending := false
        cycles := 20 }.advanceDevices) ∧
  ∀ s : State, (s.run = .running ∨ s.run = .halted) → s.ime = true → (s.raw 0xFFFF).getLsbD 0 = true →
    (s.raw 0xFF0F).getLsbD 0 = true → s.prelude.stepKind = .interrupt .vblank

/-- O15. The dispatched source is the enabled and requested one of the lowest bit, in the order V-Blank, LCD
STAT, timer, serial, joypad, with the vectors 0x40, 0x48, 0x50, 0x58, 0x60; none is dispatched exactly when IME
is 0 or none is both enabled and requested. A step's prelude is the commit at its start and then the wake-up of a
Halted CPU for which a source is both enabled and requested, whatever IME is. After it a Running CPU, which a woken
one is, dispatches that source or else executes; one that is Stopped, Locked or not woken waits for 4 cycles (R190,
R203, R204, R206, R209, R231). -/
def Obligations.DispatchPriority : Prop :=
  (∀ (s : State) (i : Interrupt), s.dispatched = some i ↔
    s.ime = true ∧ (s.raw 0xFFFF).getLsbD i.bit = true ∧ (s.raw 0xFF0F).getLsbD i.bit = true ∧
      ∀ j : Interrupt, j.bit < i.bit →
        ¬((s.raw 0xFFFF).getLsbD j.bit = true ∧ (s.raw 0xFF0F).getLsbD j.bit = true)) ∧
  (∀ s : State, s.dispatched = none ↔
    s.ime = false ∨ ∀ j : Interrupt, ¬((s.raw 0xFFFF).getLsbD j.bit = true ∧ (s.raw 0xFF0F).getLsbD j.bit = true)) ∧
  [Interrupt.vblank, .lcdStat, .timer, .serial, .joypad].map (fun i => (i.bit, i.vector)) =
    [(0, 0x0040), (1, 0x0048), (2, 0x0050), (3, 0x0058), (4, 0x0060)] ∧
  (∀ s : State, s.pending = 0 ↔
    ∀ j : Interrupt, ¬((s.raw 0xFFFF).getLsbD j.bit = true ∧ (s.raw 0xFF0F).getLsbD j.bit = true)) ∧
  ∀ s : State,
    s.prelude = { s.commitAtStart with run := if s.run = .halted ∧ s.pending ≠ 0 then .running else s.run } ∧
    s.prelude.stepKind =
      if s.run = .running ∨ (s.run = .halted ∧ s.pending ≠ 0) then
        match s.prelude.dispatched with
        | some i => .interrupt i
        | none => .execute
      else .wait 4

/-- O16. Halted: with nothing both enabled and requested a step costs 4 cycles, fetches nothing and stays
Halted; otherwise the step is that of the same machine Running, whatever IME is (R190, R204 (c), R231). -/
def Obligations.HaltWaitsAndWakes : Prop :=
  (∀ s : State, s.run = .halted → s.pending = 0 →
    step s = .next ({ s.commitAtStart with cycles := 4 }).advanceDevices ∧
      ∀ t, step s = .next t → t.run = .halted ∧ t.regs = s.regs ∧ t.cycles = 4) ∧
  ∀ s : State, s.run = .halted → s.pending ≠ 0 → step s = step { s with run := .running }

/-- O17. Stopped and Locked are left by no step: each costs 4 cycles, fetches nothing, and keeps every
register and every byte that the devices do not write (R191, R200, R231). -/
def Obligations.StoppedAndLockedStay : Prop :=
  ∀ s : State, s.stuck →
    step s = .next ({ s.commitAtStart with cycles := 4 }).advanceDevices ∧
      ∀ t, step s = .next t → t.run = s.run ∧ t.regs = s.regs ∧ t.cycles = 4 ∧
        ∀ a : Word, a ∉ ([0xFF04, 0xFF05, 0xFF0F, 0xFF41, 0xFF44] : List Word) → t.busRead a = s.busRead a

/-- O18. The EI delay. Under AfterNextInstruction EI leaves IME as it is, and the next executing step ends
with IME = 1 and nothing pending, whatever its instruction, DI apart, which leaves both 0. Under StepStart the
next step is that of the same machine with IME = 1 and nothing pending. The two commits change nothing but these
two bits (R193, R204, R205). -/
def Obligations.EnableDelay : Prop :=
  (∀ s : State, s.commitAtStart =
    if s.cfg.eiCommit = .stepStart ∧ s.imePending = true then { s with ime := true, imePending := false } else s) ∧
  (∀ before after : State, before.commitAfter after =
    if after.cfg.eiCommit = .afterNextInstruction ∧ before.imePending = true ∧ after.imePending = true then
      { after with ime := true, imePending := false }
    else after) ∧
  (∀ s : State, s.cfg.eiCommit = .afterNextInstruction → s.prelude.stepKind = .execute → s.imePending = false →
    s.fetchInstr = .ei → ∃ t, step s = .next t ∧ t.ime = s.ime ∧ t.imePending = true) ∧
  (∀ s : State, s.cfg.eiCommit = .afterNextInstruction → s.prelude.stepKind = .execute → s.imePending = true →
    ∃ t, step s = .next t ∧ t.imePending = false ∧ t.ime = decide (s.fetchInstr ≠ .di)) ∧
  ∀ s : State, s.cfg.eiCommit = .stepStart → s.imePending = true →
    step s = step { s with ime := true, imePending := false }

/-- O19. The trace: with TRACE_ENABLED a step that executes appends the address and the value of the opcode
byte, its cycles and the count after it, and changes nothing else by it; every other step appends nothing
(R229). -/
def Obligations.TraceOfExecutedSteps : Prop :=
  (∀ before after : State, before.traceStep after =
    { after with out := { after.out with trace := (before.traceStep after).out.trace } }) ∧
  ∀ s t : State, step s = .next t →
    t.out.trace =
      if s.cfg.traceEnabled = true ∧ s.prelude.stepKind = .execute then
        s.out.trace ++ [⟨s.regs.pc, s.busRead s.regs.pc, t.cycles, t.out.totalCycles⟩]
      else s.out.trace

/-- O20. Every step costs 4, 8, 12, 16, 20 or 24 cycles and counts them; by that cost first the timer and then the
PPU advance (R232). -/
def Obligations.StepCostsAreCounted : Prop :=
  (∀ s : State, let t := (s.timerAdvance s.cycles).ppuAdvance s.cycles
    s.advanceDevices = { t with out := { t.out with totalCycles := t.out.totalCycles + s.cycles } }) ∧
  ∀ s t : State, step s = .next t →
    t.cycles ∈ ([4, 8, 12, 16, 20, 24] : List Nat) ∧ t.out.totalCycles = s.out.totalCycles + t.cycles

/-- O21. The divider in closed form: DIV counts the 256s that are complete, the rest is kept (R214). -/
def Obligations.DividerAdvance : Prop :=
  ∀ (s : State) (c : Nat),
    ((s.timerAdvance c).raw 0xFF04).toNat = ((s.raw 0xFF04).toNat + (s.timer.divAcc + c) / 256) % 256 ∧
      (s.timerAdvance c).timer.divAcc = (s.timer.divAcc + c) % 256

/-- O22. The counter in closed form: while TAC bit 2 is 1 it takes one increment per complete period of TAC's
low bits, counting up to 0xFF and then from TMA, any overflow requesting the timer interrupt; while it is 0
counter and residue are frozen. The timer changes no other byte and nothing but its two accumulators (R214,
R215). -/
def Obligations.CounterAdvance : Prop :=
  ∀ (s : State) (c : Nat),
    let period := [1024, 16, 64, 256].getD ((s.raw 0xFF07).toNat % 4) 0
    let n := (s.timer.timaAcc + c) / period
    let tima := (s.raw 0xFF05).toNat
    let tma := (s.raw 0xFF06).toNat
    let t := s.timerAdvance c
    (t = { s with mem := t.mem, timer := t.timer } ∧
      ∀ a : Word, a ∉ ([0xFF04, 0xFF05, 0xFF0F] : List Word) → t.raw a = s.raw a) ∧
    if (s.raw 0xFF07).getLsbD 2 = true then
      t.timer.timaAcc = (s.timer.timaAcc + c) % period ∧
        (t.raw 0xFF05).toNat = (if tima + n < 256 then tima + n else tma + (tima + n - 256) % (256 - tma)) ∧
        t.raw 0xFF0F = if tima + n < 256 then s.raw 0xFF0F else s.raw 0xFF0F ||| 0x04
    else
      t.timer.timaAcc = s.timer.timaAcc ∧ t.raw 0xFF05 = s.raw 0xFF05 ∧ t.raw 0xFF0F = s.raw 0xFF0F

/-- O23. The PPU's mode function and the geometry of the frame (R216). -/
def Obligations.ModeThresholds : Prop :=
  (∀ ly dot : Nat, (ppuModeAt ly dot).bits =
    if 144 ≤ ly then 1 else if dot < 80 then 2 else if dot < 252 then 3 else 0) ∧
  dotsPerLine = 456 ∧ linesPerFrame = 154 ∧ dotsPerLine * linesPerFrame = 70224

/-- O24. After every step LY shows the scanline, STAT bits 1..0 the mode, STAT bit 2 whether LY = LYC; and
while they are equal and STAT bit 6 is 1 the STAT request is set. The PPU keeps STAT bits 7..3 (R217, R219). -/
def Obligations.LyAndStatPublished : Prop :=
  (∀ (s : State) (c : Nat),
    ((s.ppuAdvance c).raw 0xFF41).extractLsb' 3 5 = (s.raw 0xFF41).extractLsb' 3 5) ∧
  ∀ s t : State, step s = .next t →
    t.raw 0xFF44 = BitVec.ofNat 8 t.ppu.ly ∧
      (t.raw 0xFF41).extractLsb' 0 2 = t.ppu.mode.bits ∧
      (t.raw 0xFF41).getLsbD 2 = decide (t.ppu.ly = (t.raw 0xFF45).toNat) ∧
      (t.ppu.ly = (t.raw 0xFF45).toNat → (t.raw 0xFF41).getLsbD 6 = true → (t.raw 0xFF0F).getLsbD 1 = true)

/-- O25. V-Blank once per frame. The PPU advance ORs bit 0 into IF exactly when it moves the scanline from 143
to 144, and bit 1 exactly when the scanline it ends on is LYC and STAT bit 6 is 1; it clears no bit, emits a
frame exactly with the V-Blank request, and writes no byte but IF, STAT and LY and nothing outside the PPU. So a
step that enters line 144 leaves V-Blank requested and emits one frame, and no other step emits one (R206,
R217, R218, R219, R224). -/
def Obligations.VBlankOncePerFrame : Prop :=
  (∀ (s : State) (c : Nat), s.countersOk → c < 456 →
    let t := s.ppuAdvance c
    let enters := s.ppu.ly = 143 ∧ t.ppu.ly = 144
    let statRequest := t.ppu.ly = (s.raw 0xFF45).toNat ∧ (s.raw 0xFF41).getLsbD 6 = true
    t.raw 0xFF0F = s.raw 0xFF0F ||| (if enters then 0x01 else 0) ||| (if statRequest then 0x02 else 0) ∧
      t.out.frames = s.out.frames + (if enters then 1 else 0) ∧
      t = { s with mem := t.mem, ppu := t.ppu, out := { s.out with frames := t.out.frames } } ∧
      ∀ a : Word, a ∉ ([0xFF0F, 0xFF41, 0xFF44] : List Word) → t.raw a = s.raw a) ∧
  ∀ s t : State, s.countersOk → step s = .next t →
    (s.ppu.ly = 143 ∧ t.ppu.ly = 144 → (t.raw 0xFF0F).getLsbD 0 = true ∧ t.out.frames = s.out.frames + 1) ∧
      (¬(s.ppu.ly = 143 ∧ t.ppu.ly = 144) → t.out.frames = s.out.frames)

/-- O26. Rendering depends on nothing but the line, eight I/O bytes, VRAM and OAM (R223). -/
def Obligations.RenderingIsPure : Prop :=
  ∀ (m m' : Memory) (ly : Nat), ly < 144 →
    (∀ a ∈ rendererRegisters, m.read a = m'.read a) →
    (∀ a, 0x8000 ≤ a → a ≤ 0x9FFF → m.read a = m'.read a) →
    (∀ a, 0xFE00 ≤ a → a ≤ 0xFE9F → m.read a = m'.read a) →
    m.renderLine ly = m'.renderLine ly

/-- O27. A step changes the frame buffer only where a visible line completes in it, and there exactly that
line, drawn from the memory the step leaves (R217, R220, R223, R242). -/
def Obligations.FrameBufferChangesByWholeLines : Prop :=
  ∀ s t : State, s.countersOk → step s = .next t →
    t.ppu.fb =
      if t.ppu.ly ≠ s.ppu.ly ∧ s.ppu.ly < 144 then
        s.ppu.fb.setIfInBounds s.ppu.ly (t.mem.renderLine s.ppu.ly)
      else s.ppu.fb

/-- O28. Sprites. Which sprites meet a line, and what each paints, in integers: the eight columns from X - 8, the
flips, the tile at either height, the transparent index, the palette, and bit 7 behind a nonzero index. With LCDC
bit 1 = 0, or where no sprite of the line paints the column, the column shows what is behind the sprites; else it
shows the painting sprite that is first in X and index order (R220, R222). -/
def Obligations.SpritePriority : Prop :=
  (∀ (m : Memory) (ly n : Nat), m.spriteOnLine ly n = true ↔ spriteMeets m ly n) ∧
  (∀ (m : Memory) (ly x n : Nat), m.spriteOnLine ly n = true →
    (m.spriteShade ly x n).map BitVec.toNat = spriteValue m ly x n) ∧
  ∀ (m : Memory) (ly x : Nat) (hx : x < 160),
    ((m.read 0xFF40).getLsbD 1 = false → (m.renderLine ly)[x] = m.backShade ly x) ∧
    ((∀ n < 40, m.spriteOnLine ly n = true → m.spriteShade ly x n = none) →
      (m.renderLine ly)[x] = m.backShade ly x) ∧
    ∀ n c, (m.read 0xFF40).getLsbD 1 = true → n < 40 → m.spriteOnLine ly n = true →
      m.spriteShade ly x n = some c →
      (∀ k < 40, k ≠ n → m.spriteOnLine ly k = true → m.spriteShade ly x k ≠ none → spriteOver m n k) →
      (m.renderLine ly)[x] = c

/-- O29. Background and window, in integers, whatever LCDC is: the colour index and the shade behind the sprites,
the window over the background where LCDC bit 5 is 1, from line WY and column WX - 7 on; the background scrolled
modulo 256 where LCDC bit 0 is 1; index and shade 0 elsewhere. With the sprites off the line shows that shade
(R220, R221). -/
def Obligations.BackgroundAndWindowShades : Prop :=
  ∀ (m : Memory) (ly x : Nat),
    (m.backColour ly x).toNat = (behindValue m ly x).getD 0 ∧
    (m.backShade ly x).toNat = behindShadeValue m ly x ∧
    ∀ hx : x < 160, (m.read 0xFF40).getLsbD 1 = false → ((m.renderLine ly)[x]).toNat = behindShadeValue m ly x

/-- O30. Writes to the cartridge: without a controller they change nothing; on MBC1 each range writes its one
register, and external RAM is written at the mapped offset when it is enabled and present; the low bank number
and the bank it selects never become 0 (R51, R53 to R57). -/
def Obligations.CartridgeWrites : Prop :=
  ∀ (s : State) (a : Word) (v : Byte), s.overlaid a = false →
    let x := a.toNat
    let c := s.cart
    let bank := if c.bankMode then c.ramBank.toNat else 0
    (x ≤ 0x7FFF ∨ (0xA000 ≤ x ∧ x ≤ 0xBFFF)) →
    (c.kind = .noMbc → s.busWrite a v = s) ∧
    (c.kind = .mbc1 → s.busWrite a v = { s with cart :=
      if x ≤ 0x1FFF then { c with ramEnable := decide (v.toNat % 16 = 0xA) }
      else if x ≤ 0x3FFF then
        { c with bankLo := if v.toNat % 32 = 0 then 1 else BitVec.ofNat 5 v.toNat }
      else if x ≤ 0x5FFF then
        if c.bankMode then { c with ramBank := BitVec.ofNat 2 v.toNat } else { c with bankHi := BitVec.ofNat 2 v.toNat }
      else if x ≤ 0x7FFF then { c with bankMode := decide (v.toNat % 2 = 1) }
      else if c.ramEnable = true ∧ 0 < c.eram.size then
        { c with eram := c.eram.write ((bank * 0x2000 + (x - 0xA000)) % c.eram.size) v }
      else c }) ∧
    (c.bankLo ≠ 0 → (s.busWrite a v).cart.bankLo ≠ 0 ∧ (s.busWrite a v).cart.romBankEff ≠ 0)

/-- O31. Reads of the cartridge: the fixed bank, the switchable bank, whose number is 1 to 127 and never 0,
external RAM, and 0xFF where there is none (R50, R52). -/
def Obligations.CartridgeReads : Prop :=
  ∀ (s : State) (a : Word), s.overlaid a = false → s.cart.bankLo ≠ 0 →
    let x := a.toNat
    let c := s.cart
    let romBank := if c.bankMode then c.bankLo.toNat else c.bankHi.toNat * 32 + c.bankLo.toNat
    let ramBank := if c.bankMode then c.ramBank.toNat else 0
    (1 ≤ romBank ∧ romBank ≤ 127) ∧
    (x ≤ 0x3FFF → s.busRead a = c.rom.read (x % c.rom.size)) ∧
    (0x4000 ≤ x → x ≤ 0x7FFF → s.busRead a =
      match c.kind with
      | .noMbc => c.rom.read (x % c.rom.size)
      | .mbc1 => c.rom.read ((romBank * 0x4000 + (x - 0x4000)) % c.rom.size)) ∧
    (0xA000 ≤ x → x ≤ 0xBFFF → s.busRead a =
      match c.kind with
      | .noMbc => 0xFF
      | .mbc1 =>
        if c.ramEnable = true ∧ 0 < c.eram.size then
          c.eram.read ((ramBank * 0x2000 + (x - 0xA000)) % c.eram.size)
        else 0xFF)

/-- O32. A byte stored at a plain address reads back; a store that is local in the sense of R47 leaves every
other address reading as before; under the boot overlay a read gives the boot image's byte and a store changes
nothing. A plain byte is read from the backing array and stored to it without any other effect; the array reads
back what is written (R27, R46, R47, R48, R67, R72). -/
def Obligations.StoredByteReadsBack : Prop :=
  (∀ (s : State) (a : Word) (v : Byte),
    (0x8000 ≤ a.toNat ∧ a.toNat ≤ 0x9FFF) ∨ 0xC000 ≤ a.toNat → a ≠ 0xFF00 →
    (a = 0xFF04 → s.cfg.divWriteReset = false) → (s.busWrite a v).busRead a = v) ∧
  (∀ (s : State) (a : Word) (v : Byte), s.localStore a v → s.readsSameExcept (s.busWrite a v) [a]) ∧
  (∀ (s : State) (a : Word) (v : Byte), s.bootActive = true → a.toNat < min s.boot.size 0x100 →
    s.busRead a = s.boot.read a.toNat ∧ s.busWrite a v = s) ∧
  (∀ (s : State) (a : Word) (v : Byte), (0x8000 ≤ a.toNat ∧ a.toNat ≤ 0x9FFF) ∨ 0xC000 ≤ a.toNat → a ≠ 0xFF00 →
    s.busRead a = s.raw a ∧
      (a ∉ ([0xFF02, 0xFF04, 0xFF46, 0xFF50] : List Word) → s.busWrite a v = s.setRaw a v)) ∧
  (∀ (s : State) (a : Word) (v : Byte), s.setRaw a v = { s with mem := s.mem.write a.toNat v }) ∧
  ∀ (m : Memory) (a x : Nat) (v : Byte), (m.write a v).read x = if x = a then v else m.read x

/-- O33. OAM DMA: a write of v to 0xFF46 stores v and copies the 160 bytes at v * 256 to OAM, through the bus;
nothing else changes (R60, R227). -/
def Obligations.OamDmaCopies : Prop :=
  ∀ (s : State) (v : Byte),
    let t := s.busWrite 0xFF46 v
    t = { s with mem := t.mem } ∧ t.busRead 0xFF46 = v ∧
    (∀ k < 160, t.busRead (BitVec.ofNat 16 (0xFE00 + k)) =
      (s.setRaw 0xFF46 v).busRead (BitVec.ofNat 16 (v.toNat * 256 + k))) ∧
    ∀ a : Word, a ≠ 0xFF46 → (a.toNat < 0xFE00 ∨ 0xFE9F < a.toNat) → t.busRead a = s.busRead a

/-- O34. The intercepted I/O bytes: the joypad register stores bits 5..4 only and reads composed, a write of
0x81 to SC emits SB once, a write to DIV stores its value or 0 (R58, R59, R62). -/
def Obligations.InterceptedIoRegisters : Prop :=
  ∀ (s : State) (v : Byte),
    s.busWrite 0xFF00 v = { s with joypSelect := v.extractLsb' 4 2 } ∧
    (s.busRead 0xFF00).getLsbD 7 = true ∧ (s.busRead 0xFF00).getLsbD 6 = true ∧
    (s.busRead 0xFF00).extractLsb' 4 2 = s.joypSelect ∧
    (∀ i < 4, (s.busRead 0xFF00).getLsbD i =
      ((s.joypSelect.getLsbD 0 || !s.buttons.getLsbD i) && (s.joypSelect.getLsbD 1 || !s.buttons.getLsbD (i + 4)))) ∧
    s.busWrite 0xFF02 v = { s with
      mem := s.mem.write 0xFF02 v
      out := { s.out with serial := if v = 0x81 then s.out.serial ++ [s.raw 0xFF01] else s.out.serial } } ∧
    s.busWrite 0xFF04 v = { s with mem := s.mem.write 0xFF04 (if s.cfg.divWriteReset then 0 else v) }

/-- O35. LD r from a register, an immediate or the byte at HL: r gets the value, nothing else changes
(R86, R87, R88). -/
def Obligations.LoadRegister : Prop :=
  ∀ (s : State) (r : R8) (src : ByteSource),
    ∃ t, exec (src.load r) s = .next t ∧ t.regs.get r = src.value s ∧ (∀ r', r' ≠ r → t.regs.get r' = s.regs.get r') ∧
      t.regs.f = s.regs.f ∧ t.regs.sp = s.regs.sp ∧ t.regs.pc = s.regs.pc ∧ t.cycles = src.cost ∧ s.onlyRegs t

/-- O36. LD A from memory: the seven addressing modes, their costs, and HL moved by one where the mode says so
(R91, R92, R95, R97, R99, R103, R104). -/
def Obligations.LoadAccumulatorFromMemory : Prop :=
  ∀ (s : State) (n : Byte) (a : Word),
    let hl := s.regs.h ++ s.regs.l
    let loaded (x : Word) (c : Nat) : State :=
      { s with regs := { s.regs with a := s.busRead x }, cycles := c }
    let moved (y : Word) : State :=
      { s with regs := { s.regs with a := s.busRead hl, h := upper y, l := lower y }, cycles := 8 }
    exec .ldAAtBC s = .next (loaded (s.regs.b ++ s.regs.c) 8) ∧
    exec .ldAAtDE s = .next (loaded (s.regs.d ++ s.regs.e) 8) ∧
    exec (.ldAAtA16 a) s = .next (loaded a 16) ∧
    exec (.ldhAAtA8 n) s = .next (loaded (0xFF00 + n.setWidth 16) 12) ∧
    exec .ldAAtC s = .next (loaded (0xFF00 + s.regs.c.setWidth 16) 8) ∧
    exec .ldAAtHLI s = .next (moved (hl + 1)) ∧
    exec .ldAAtHLD s = .next (moved (hl - 1))

/-- O37. The 8-bit stores: the byte and the address of each, its cost, HL moved by one where the mode says so,
and the frame (R89, R90, R93, R94, R96, R98, R100, R101, R102). -/
def Obligations.ByteStores : Prop :=
  ∀ (s : State) (r : R8) (n : Byte) (a : Word),
    let hl := s.regs.h ++ s.regs.l
    let moved (y : Word) : Regs := { s.regs with h := upper y, l := lower y }
    s.stores (exec (.ld8ToHL r) s) hl (s.regs.get r) s.regs 8 ∧
    s.stores (exec (.ldAtHLN8 n) s) hl n s.regs 12 ∧
    s.stores (exec .ldAtBCA s) (s.regs.b ++ s.regs.c) s.regs.a s.regs 8 ∧
    s.stores (exec .ldAtDEA s) (s.regs.d ++ s.regs.e) s.regs.a s.regs 8 ∧
    s.stores (exec (.ldAtA16A a) s) a s.regs.a s.regs 16 ∧
    s.stores (exec (.ldhAtA8A n) s) (0xFF00 + n.setWidth 16) s.regs.a s.regs 12 ∧
    s.stores (exec .ldAtCA s) (0xFF00 + s.regs.c.setWidth 16) s.regs.a s.regs 8 ∧
    s.stores (exec .ldAtHLIA s) hl s.regs.a (moved (hl + 1)) 8 ∧
    s.stores (exec .ldAtHLDA s) hl s.regs.a (moved (hl - 1)) 8

/-- O38. LD rr,n16 and LD SP,HL: the high byte to the high register, no flag (R18, R105, R107). -/
def Obligations.LoadPair : Prop :=
  ∀ (s : State) (v : Word),
    let with12 (g : Regs) : State := { s with regs := g, cycles := 12 }
    exec (.ldBCN16 v) s = .next (with12 { s.regs with b := upper v, c := lower v }) ∧
    exec (.ldDEN16 v) s = .next (with12 { s.regs with d := upper v, e := lower v }) ∧
    exec (.ldHLN16 v) s = .next (with12 { s.regs with h := upper v, l := lower v }) ∧
    exec (.ldSPN16 v) s = .next (with12 { s.regs with sp := v }) ∧
    exec .ldSPHL s = .next { s with regs := { s.regs with sp := s.regs.h ++ s.regs.l }, cycles := 8 }

/-- O39. ADD SP,e8 and LD HL,SP+e8: the signed sum modulo 2^16, H and C from the unsigned sum of the low bytes,
Z = N = 0, the same value and the same F for both (R108, R146, R147). -/
def Obligations.StackPointerOffset : Prop :=
  ∀ (s : State) (e : Byte),
    let sp := s.regs.sp.toNat
    let f := BitVec.ofNat 8
      (flagsValue false false (decide (0x0F < sp % 16 + e.toNat % 16)) (decide (0xFF < sp % 256 + e.toNat)))
    ∃ v : Word, (v.toNat : Int) = ((sp : Int) + e.toInt) % 65536 ∧
      exec (.addSPE8 e) s = .next { s with regs := { s.regs with sp := v, f := f }, cycles := 16 } ∧
      exec (.ldHLSPE8 e) s = .next
        { s with regs := { s.regs with h := upper v, l := lower v, f := f }, cycles := 12 }

/-- O40. LD (a16),SP: the low byte at a16 first, then the high byte at a16 + 1 modulo 2^16 (R63, R106). -/
def Obligations.StoreStackPointer : Prop :=
  ∀ (s : State) (a : Word),
    s.storesTwo (exec (.ldAtA16SP a) s) a (lower s.regs.sp) (a + 1) (upper s.regs.sp) s.regs 20

/-- O41. PUSH: SP 2 lower, the high byte written first at SP - 1, then the low byte at SP - 2 (R13, R109, R110). -/
def Obligations.PushPairs : Prop :=
  ∀ s : State,
    let pushes (i : Instr) (hi lo : Byte) : Prop :=
      s.storesTwo (exec i s) (s.regs.sp - 1) hi (s.regs.sp - 2) lo { s.regs with sp := s.regs.sp - 2 } 16
    pushes .pushBC s.regs.b s.regs.c ∧ pushes .pushDE s.regs.d s.regs.e ∧ pushes .pushHL s.regs.h s.regs.l ∧
      pushes .pushAF s.regs.a s.regs.f

/-- O42. POP: the low byte from SP, the high byte from SP + 1, SP 2 higher; POP AF drops bits 3..0 of F (R13,
R19, R111, R112). -/
def Obligations.PopPairs : Prop :=
  ∀ s : State,
    let lo := s.busRead s.regs.sp
    let hi := s.busRead (s.regs.sp + 1)
    let popped (g : Regs) : State := { s with regs := { g with sp := s.regs.sp + 2 }, cycles := 12 }
    exec .popBC s = .next (popped { s.regs with b := hi, c := lo }) ∧
    exec .popDE s = .next (popped { s.regs with d := hi, e := lo }) ∧
    exec .popHL s = .next (popped { s.regs with h := hi, l := lo }) ∧
    exec .popAF s = .next (popped { s.regs with a := hi, f := BitVec.ofNat 8 (lo.toNat / 16 * 16) })

/-- O43. ADD and ADC on every source: the sum modulo 256, Z, N = 0, H the carry out of bit 3, C out of bit 7,
the carry-in counting in both (R113 to R119). -/
def Obligations.AddAndAddWithCarry : Prop :=
  ∀ (s : State) (src : ByteSource) (withCarry : Bool),
    let a := s.regs.a.toNat
    let b := (src.value s).toNat
    let cin := if withCarry = true ∧ s.regs.f.getLsbD 4 = true then 1 else 0
    ∃ t, exec (src.alu (if withCarry then .adc else .add)) s = .next t ∧
      t.regs.a.toNat = (a + b + cin) % 256 ∧
      t.regs.f.toNat = flagsValue (decide ((a + b + cin) % 256 = 0)) false (decide (15 < a % 16 + b % 16 + cin))
        (decide (255 < a + b + cin)) ∧
      t = { s with regs := { s.regs with a := t.regs.a, f := t.regs.f }, cycles := src.cost }

/-- O44. SUB, SBC and CP on every source: the difference modulo 256 (CP keeps A), Z, N = 1, H the borrow into
bit 4, C the borrow out of bit 7 (R113, R120 to R125, R135 to R137). -/
def Obligations.SubtractAndCompare : Prop :=
  ∀ (s : State) (src : ByteSource) (op : AluOp), op = .sub ∨ op = .sbc ∨ op = .cp →
    let a := s.regs.a.toNat
    let b := (src.value s).toNat
    let cin := if op = .sbc ∧ s.regs.f.getLsbD 4 = true then 1 else 0
    let r := (a + 512 - b - cin) % 256
    ∃ t, exec (src.alu op) s = .next t ∧
      t.regs.a.toNat = (if op = .cp then a else r) ∧
      t.regs.f.toNat = flagsValue (decide (r = 0)) true (decide (a % 16 < b % 16 + cin)) (decide (a < b + cin)) ∧
      t = { s with regs := { s.regs with a := t.regs.a, f := t.regs.f }, cycles := src.cost }

/-- O45. AND, XOR and OR on every source, bit by bit: Z, N = 0, H = 1 for AND only, C = 0 (R113, R126 to R134). -/
def Obligations.BitwiseLogic : Prop :=
  ∀ (s : State) (src : ByteSource) (op : AluOp), op = .and ∨ op = .xor ∨ op = .or →
    ∃ t, exec (src.alu op) s = .next t ∧
      (∀ i < 8, t.regs.a.getLsbD i =
        let x := s.regs.a.getLsbD i
        let y := (src.value s).getLsbD i
        if op = .and then x && y else if op = .xor then x != y else x || y) ∧
      t.regs.f.toNat = flagsValue (decide (t.regs.a = 0)) false (decide (op = .and)) false ∧
      t = { s with regs := { s.regs with a := t.regs.a, f := t.regs.f }, cycles := src.cost }

/-- O46. INC and DEC on a register or the byte at HL: the value moved by one modulo 256, Z, N, H, and C kept
(R138 to R141). -/
def Obligations.IncrementAndDecrement : Prop :=
  ∀ (s : State) (o : ByteOperand),
    let v := (o.value s).toNat
    let c := s.regs.f.getLsbD 4
    o.wroteBack s (exec o.inc s) (BitVec.ofNat 8 (v + 1))
      (BitVec.ofNat 8 (flagsValue (decide (v = 255)) false (decide (v % 16 = 15)) c)) (o.cost 4 12) ∧
    o.wroteBack s (exec o.dec s) (BitVec.ofNat 8 (v + 255))
      (BitVec.ofNat 8 (flagsValue (decide (v = 1)) true (decide (v % 16 = 0)) c)) (o.cost 4 12)

/-- O47. ADD HL,rr with H from bit 11, C from bit 15 and Z kept; INC rr and DEC rr modulo 2^16 with no flag
(R143, R144, R145). -/
def Obligations.PairArithmetic : Prop :=
  ∀ (s : State) (rr : R16),
    let hl := (s.regs.h ++ s.regs.l).toNat
    let x := (s.regs.get16 rr).toNat
    (∃ t, exec (.addHL rr) s = .next t ∧ (t.regs.h ++ t.regs.l).toNat = (hl + x) % 65536 ∧
      t.regs.f.toNat = flagsValue (s.regs.f.getLsbD 7) false (decide (0x0FFF < hl % 4096 + x % 4096))
        (decide (0xFFFF < hl + x)) ∧
      t = { s with regs := { s.regs with h := t.regs.h, l := t.regs.l, f := t.regs.f }, cycles := 8 }) ∧
    (∃ t, exec (.inc16 rr) s = .next t ∧ (t.regs.get16 rr).toNat = (x + 1) % 65536 ∧
      (∀ rr', rr' ≠ rr → t.regs.get16 rr' = s.regs.get16 rr') ∧
      t.regs.a = s.regs.a ∧ t.regs.f = s.regs.f ∧ t.regs.pc = s.regs.pc ∧ t.cycles = 8 ∧ s.onlyRegs t) ∧
    ∃ t, exec (.dec16 rr) s = .next t ∧ (t.regs.get16 rr).toNat = (x + 65535) % 65536 ∧
      (∀ rr', rr' ≠ rr → t.regs.get16 rr' = s.regs.get16 rr') ∧
      t.regs.a = s.regs.a ∧ t.regs.f = s.regs.f ∧ t.regs.pc = s.regs.pc ∧ t.cycles = 8 ∧ s.onlyRegs t

/-- O48. RLCA, RRCA, RLA and RRA: the rotate of A, C the bit shifted out, Z = N = H = 0 even for a zero result
(R149 to R152). -/
def Obligations.AccumulatorRotates : Prop :=
  ∀ s : State,
    let rotates (i : Instr) (op : RotOp) : Prop :=
      let (r, c) := rotateValue op s.regs.a.toNat (s.regs.f.getLsbD 4).toNat
      ∃ t, exec i s = .next t ∧ t.regs.a.toNat = r ∧ t.regs.f.toNat = flagsValue false false false c ∧
        t = { s with regs := { s.regs with a := t.regs.a, f := t.regs.f }, cycles := 4 }
    rotates .rlca .rlc ∧ rotates .rrca .rrc ∧ rotates .rla .rl ∧ rotates .rra .rr

/-- O49. The eight CB-page rotates and shifts on a register or the byte at HL: the result written back, Z of the
result, N = H = 0, C as the operation gives it (R153 to R169). -/
def Obligations.RotatesAndShifts : Prop :=
  ∀ (s : State) (o : ByteOperand) (op : RotOp),
    let (r, c) := rotateValue op (o.value s).toNat (s.regs.f.getLsbD 4).toNat
    o.wroteBack s (exec (o.rot op) s) (BitVec.ofNat 8 r)
      (BitVec.ofNat 8 (flagsValue (decide (r = 0)) false false c)) (o.cost 8 16)

/-- O50. BIT: Z = 1 exactly when the bit is 0, N = 0, H = 1, C kept; nothing else changes (R170, R171). -/
def Obligations.BitTests : Prop :=
  ∀ (s : State) (o : ByteOperand) (b : Fin 8),
    ∃ t, exec (o.bit b) s = .next t ∧
      t.regs.f.toNat =
        flagsValue (decide ((o.value s).toNat / 2 ^ b.val % 2 = 0)) false true (s.regs.f.getLsbD 4) ∧
      t = { s with regs := { s.regs with f := t.regs.f }, cycles := o.cost 8 12 }

/-- O51. RES and SET on a register or the byte at HL: exactly bit b is written, no flag (R172 to R175). -/
def Obligations.BitResetAndSet : Prop :=
  ∀ (s : State) (o : ByteOperand) (b : Fin 8),
    ∃ cleared set : Byte,
      (∀ i < 8, cleared.getLsbD i = ((o.value s).getLsbD i && decide (i ≠ b.val)) ∧
        set.getLsbD i = ((o.value s).getLsbD i || decide (i = b.val))) ∧
      o.wroteBack s (exec (o.res b) s) cleared s.regs.f (o.cost 8 16) ∧
      o.wroteBack s (exec (o.set b) s) set s.regs.f (o.cost 8 16)

/-- O52. Jumps: the target, and for the conditional forms the two costs; nothing but PC changes (R176 to R181). -/
def Obligations.Jumps : Prop :=
  ∀ (s : State) (a : Word) (e : Byte),
    let goes (i : Instr) (target : Word) (c : Nat) : Prop :=
      exec i s = .next { s with regs := { s.regs with pc := target }, cycles := c }
    let holds : Cond → Bool := fun cc =>
      match cc with
      | .nz => !s.regs.f.getLsbD 7
      | .z => s.regs.f.getLsbD 7
      | .nc => !s.regs.f.getLsbD 4
      | .c => s.regs.f.getLsbD 4
    ∃ target : Word, (target.toNat : Int) = ((s.regs.pc.toNat : Int) + e.toInt) % 65536 ∧
      goes (.jpA16 a) a 16 ∧ goes .jpHL (s.regs.h ++ s.regs.l) 4 ∧ goes (.jrE8 e) target 12 ∧
      ∀ cc : Cond,
        (if holds cc then goes (.jpIf cc a) a 16 else goes (.jpIf cc a) s.regs.pc 12) ∧
        (if holds cc then goes (.jrIf cc e) target 12 else goes (.jrIf cc e) s.regs.pc 8)

/-- O53. CALL, CALL cc and RST: the address after the instruction pushed, high byte first, PC at the target;
a call not taken changes nothing (R182, R183, R187). -/
def Obligations.CallsAndRestarts : Prop :=
  ∀ (s : State) (a : Word),
    let calls (i : Instr) (target : Word) (c : Nat) : Prop :=
      s.storesTwo (exec i s) (s.regs.sp - 1) (upper s.regs.pc) (s.regs.sp - 2) (lower s.regs.pc)
        { s.regs with sp := s.regs.sp - 2, pc := target } c
    calls (.callA16 a) a 24 ∧
      (∀ cc : Cond, if s.cond cc then calls (.callIf cc a) a 24
        else exec (.callIf cc a) s = .next { s with cycles := 12 }) ∧
      ∀ y : Fin 8, calls (.rst y) (BitVec.ofNat 16 (8 * y.val)) 16

/-- O54. RET, RET cc and RETI: PC from the two bytes at SP, SP 2 higher; RETI also sets IME at once and leaves
the pending enable (R184, R185, R186). -/
def Obligations.Returns : Prop :=
  ∀ s : State,
    let returned (c : Nat) : State :=
      { s with
        regs := { s.regs with pc := s.busRead (s.regs.sp + 1) ++ s.busRead s.regs.sp, sp := s.regs.sp + 2 }
        cycles := c }
    exec .ret s = .next (returned 16) ∧
      exec .reti s = .next { returned 16 with ime := true } ∧
      ∀ cc : Cond, exec (.retIf cc) s = .next (if s.cond cc then returned 20 else { s with cycles := 8 })

/-- O55. NOP, HALT, STOP, DI and EI: the run-state or the two enables they write, 4 cycles, nothing else
(R189 to R193). -/
def Obligations.CpuControl : Prop :=
  ∀ (s : State) (n : Byte),
    exec .nop s = .next { s with cycles := 4 } ∧
    exec .halt s = .next { s with run := .halted, cycles := 4 } ∧
    exec (.stop n) s = .next { s with run := .stopped, cycles := 4 } ∧
    exec .di s = .next { s with ime := false, imePending := false, cycles := 4 } ∧
    exec .ei s = .next { s with imePending := true, cycles := 4 }

/-- O56. DAA, in integers: the two adjustments of each path, Z of the result, N kept, H = 0, C (R194). -/
def Obligations.DecimalAdjust : Prop :=
  ∀ s : State,
    let a := s.regs.a.toNat
    let n := s.regs.f.getLsbD 6
    let h := s.regs.f.getLsbD 5
    let c := s.regs.f.getLsbD 4
    let high := if c = true ∨ (n = false ∧ 0x99 < a) then 0x60 else 0
    let low := if h = true ∨ (n = false ∧ 0x09 < a % 16) then 0x06 else 0
    let r := if n then (a + 512 - high - low) % 256 else (a + high + low) % 256
    ∃ t, exec .daa s = .next t ∧ t.regs.a.toNat = r ∧
      t.regs.f.toNat = flagsValue (decide (r = 0)) n false (c || (!n && decide (0x99 < a))) ∧
      t = { s with regs := { s.regs with a := t.regs.a, f := t.regs.f }, cycles := 4 }

/-- O57. DAA after ADC or SBC of two-digit decimal numbers, with carry 0 or 1, gives the decimal sum or
difference modulo 100 and its carry or borrow (R113, R194). -/
def Obligations.DecimalArithmetic : Prop :=
  ∀ (s : State) (x y : Nat), x < 100 → y < 100 → s.regs.a = bcd x →
    let cin := (s.regs.f.getLsbD 4).toNat
    (∃ t u, exec (.adcAN8 (bcd y)) s = .next t ∧ exec .daa t = .next u ∧
      u.regs.a = bcd ((x + y + cin) % 100) ∧ u.regs.f.getLsbD 4 = decide (100 ≤ x + y + cin)) ∧
    ∃ t u, exec (.sbcAN8 (bcd y)) s = .next t ∧ exec .daa t = .next u ∧
      u.regs.a = bcd ((x + 200 - y - cin) % 100) ∧ u.regs.f.getLsbD 4 = decide (x < y + cin)

/-- O58. CPL, SCF and CCF (R195, R196, R197). -/
def Obligations.ComplementAndCarry : Prop :=
  ∀ s : State,
    let z := s.regs.f.getLsbD 7
    let c := s.regs.f.getLsbD 4
    let leaves (i : Instr) (a : Byte) (f : Nat) : Prop :=
      exec i s = .next { s with regs := { s.regs with a := a, f := BitVec.ofNat 8 f }, cycles := 4 }
    leaves .cpl (BitVec.ofNat 8 (255 - s.regs.a.toNat)) (flagsValue z true true c) ∧
    leaves .scf s.regs.a (flagsValue z false false true) ∧
    leaves .ccf s.regs.a (flagsValue z false false (!c))

/-- O59. An unrecognized opcode: one diagnostic with the address of the opcode byte and the byte, 4 cycles,
and nothing else under Lenient, the Locked run-state under Lock (R199, R200). -/
def Obligations.UnrecognizedOpcodes : Prop :=
  ∀ (s : State) (i : Instr) (op : Byte), unrecognizedByte i = some op →
    exec i s = .next { s with
      run := match s.cfg.illegalOpcodeMode with
        | .lenient => s.run
        | .lock => .locked
      out := { s.out with diagnostics := s.out.diagnostics ++ [.unrecognizedOpcode (s.regs.pc - 1) op] }
      cycles := 4 }

/-- O60. The prefix taken alone: it fetches op2 at PC and runs the CB-page instruction op2, with that
instruction's effect and cost (R81, R198). -/
def Obligations.PrefixRunsTheCbPage : Prop :=
  ∀ s : State, ∃ t, exec .prefixCB s = .next t ∧
    exec (decode3 0xCB (s.busRead s.regs.pc) 0) { s with regs := { s.regs with pc := s.regs.pc + 1 } } = .next t
end

