-- ==== Sys2Proof/Laws/State.lean ====
section
/-! SUPPORT. One lemma per field and update of the state, true by rfl: later proofs do not unfold a record
update. A statement of an update names what it changes; every other field is as before. -/

namespace Sys2Proof.Machine

section
variable (s : State)

@[simp] theorem State.setRaw_regs (a : Word) (v : Byte) : (s.setRaw a v).regs = s.regs := rfl
@[simp] theorem State.setRaw_ime (a : Word) (v : Byte) : (s.setRaw a v).ime = s.ime := rfl
@[simp] theorem State.setRaw_imePending (a : Word) (v : Byte) : (s.setRaw a v).imePending = s.imePending := rfl
@[simp] theorem State.setRaw_run (a : Word) (v : Byte) : (s.setRaw a v).run = s.run := rfl
@[simp] theorem State.setRaw_mem (a : Word) (v : Byte) : (s.setRaw a v).mem = s.mem.write a.toNat v := rfl
@[simp] theorem State.setRaw_boot (a : Word) (v : Byte) : (s.setRaw a v).boot = s.boot := rfl
@[simp] theorem State.setRaw_bootActive (a : Word) (v : Byte) : (s.setRaw a v).bootActive = s.bootActive := rfl
@[simp] theorem State.setRaw_joypSelect (a : Word) (v : Byte) : (s.setRaw a v).joypSelect = s.joypSelect := rfl
@[simp] theorem State.setRaw_buttons (a : Word) (v : Byte) : (s.setRaw a v).buttons = s.buttons := rfl
@[simp] theorem State.setRaw_cart (a : Word) (v : Byte) : (s.setRaw a v).cart = s.cart := rfl
@[simp] theorem State.setRaw_timer (a : Word) (v : Byte) : (s.setRaw a v).timer = s.timer := rfl
@[simp] theorem State.setRaw_ppu (a : Word) (v : Byte) : (s.setRaw a v).ppu = s.ppu := rfl
@[simp] theorem State.setRaw_out (a : Word) (v : Byte) : (s.setRaw a v).out = s.out := rfl
@[simp] theorem State.setRaw_cycles (a : Word) (v : Byte) : (s.setRaw a v).cycles = s.cycles := rfl
@[simp] theorem State.setRaw_cfg (a : Word) (v : Byte) : (s.setRaw a v).cfg = s.cfg := rfl

@[simp] theorem State.setR8_regs (r : R8) (v : Byte) : (s.setR8 r v).regs = s.regs.put r v := rfl
@[simp] theorem State.setR8_ime (r : R8) (v : Byte) : (s.setR8 r v).ime = s.ime := rfl
@[simp] theorem State.setR8_imePending (r : R8) (v : Byte) : (s.setR8 r v).imePending = s.imePending := rfl
@[simp] theorem State.setR8_run (r : R8) (v : Byte) : (s.setR8 r v).run = s.run := rfl
@[simp] theorem State.setR8_mem (r : R8) (v : Byte) : (s.setR8 r v).mem = s.mem := rfl
@[simp] theorem State.setR8_boot (r : R8) (v : Byte) : (s.setR8 r v).boot = s.boot := rfl
@[simp] theorem State.setR8_bootActive (r : R8) (v : Byte) : (s.setR8 r v).bootActive = s.bootActive := rfl
@[simp] theorem State.setR8_joypSelect (r : R8) (v : Byte) : (s.setR8 r v).joypSelect = s.joypSelect := rfl
@[simp] theorem State.setR8_buttons (r : R8) (v : Byte) : (s.setR8 r v).buttons = s.buttons := rfl
@[simp] theorem State.setR8_cart (r : R8) (v : Byte) : (s.setR8 r v).cart = s.cart := rfl
@[simp] theorem State.setR8_timer (r : R8) (v : Byte) : (s.setR8 r v).timer = s.timer := rfl
@[simp] theorem State.setR8_ppu (r : R8) (v : Byte) : (s.setR8 r v).ppu = s.ppu := rfl
@[simp] theorem State.setR8_out (r : R8) (v : Byte) : (s.setR8 r v).out = s.out := rfl
@[simp] theorem State.setR8_cycles (r : R8) (v : Byte) : (s.setR8 r v).cycles = s.cycles := rfl
@[simp] theorem State.setR8_cfg (r : R8) (v : Byte) : (s.setR8 r v).cfg = s.cfg := rfl

@[simp] theorem State.setR16_regs (rr : R16) (v : Word) : (s.setR16 rr v).regs = s.regs.put16 rr v := rfl
@[simp] theorem State.setR16_ime (rr : R16) (v : Word) : (s.setR16 rr v).ime = s.ime := rfl
@[simp] theorem State.setR16_imePending (rr : R16) (v : Word) : (s.setR16 rr v).imePending = s.imePending := rfl
@[simp] theorem State.setR16_run (rr : R16) (v : Word) : (s.setR16 rr v).run = s.run := rfl
@[simp] theorem State.setR16_mem (rr : R16) (v : Word) : (s.setR16 rr v).mem = s.mem := rfl
@[simp] theorem State.setR16_boot (rr : R16) (v : Word) : (s.setR16 rr v).boot = s.boot := rfl
@[simp] theorem State.setR16_bootActive (rr : R16) (v : Word) : (s.setR16 rr v).bootActive = s.bootActive := rfl
@[simp] theorem State.setR16_joypSelect (rr : R16) (v : Word) : (s.setR16 rr v).joypSelect = s.joypSelect := rfl
@[simp] theorem State.setR16_buttons (rr : R16) (v : Word) : (s.setR16 rr v).buttons = s.buttons := rfl
@[simp] theorem State.setR16_cart (rr : R16) (v : Word) : (s.setR16 rr v).cart = s.cart := rfl
@[simp] theorem State.setR16_timer (rr : R16) (v : Word) : (s.setR16 rr v).timer = s.timer := rfl
@[simp] theorem State.setR16_ppu (rr : R16) (v : Word) : (s.setR16 rr v).ppu = s.ppu := rfl
@[simp] theorem State.setR16_out (rr : R16) (v : Word) : (s.setR16 rr v).out = s.out := rfl
@[simp] theorem State.setR16_cycles (rr : R16) (v : Word) : (s.setR16 rr v).cycles = s.cycles := rfl
@[simp] theorem State.setR16_cfg (rr : R16) (v : Word) : (s.setR16 rr v).cfg = s.cfg := rfl

@[simp] theorem State.setStkPair_regs (rr : R16Stk) (v : Word) : (s.setStkPair rr v).regs = s.regs.putStk rr v := rfl
@[simp] theorem State.setStkPair_ime (rr : R16Stk) (v : Word) : (s.setStkPair rr v).ime = s.ime := rfl
@[simp] theorem State.setStkPair_imePending (rr : R16Stk) (v : Word) : (s.setStkPair rr v).imePending = s.imePending := rfl
@[simp] theorem State.setStkPair_run (rr : R16Stk) (v : Word) : (s.setStkPair rr v).run = s.run := rfl
@[simp] theorem State.setStkPair_mem (rr : R16Stk) (v : Word) : (s.setStkPair rr v).mem = s.mem := rfl
@[simp] theorem State.setStkPair_boot (rr : R16Stk) (v : Word) : (s.setStkPair rr v).boot = s.boot := rfl
@[simp] theorem State.setStkPair_bootActive (rr : R16Stk) (v : Word) : (s.setStkPair rr v).bootActive = s.bootActive := rfl
@[simp] theorem State.setStkPair_joypSelect (rr : R16Stk) (v : Word) : (s.setStkPair rr v).joypSelect = s.joypSelect := rfl
@[simp] theorem State.setStkPair_buttons (rr : R16Stk) (v : Word) : (s.setStkPair rr v).buttons = s.buttons := rfl
@[simp] theorem State.setStkPair_cart (rr : R16Stk) (v : Word) : (s.setStkPair rr v).cart = s.cart := rfl
@[simp] theorem State.setStkPair_timer (rr : R16Stk) (v : Word) : (s.setStkPair rr v).timer = s.timer := rfl
@[simp] theorem State.setStkPair_ppu (rr : R16Stk) (v : Word) : (s.setStkPair rr v).ppu = s.ppu := rfl
@[simp] theorem State.setStkPair_out (rr : R16Stk) (v : Word) : (s.setStkPair rr v).out = s.out := rfl
@[simp] theorem State.setStkPair_cycles (rr : R16Stk) (v : Word) : (s.setStkPair rr v).cycles = s.cycles := rfl
@[simp] theorem State.setStkPair_cfg (rr : R16Stk) (v : Word) : (s.setStkPair rr v).cfg = s.cfg := rfl

@[simp] theorem State.setPc_regs (v : Word) : (s.setPc v).regs = { s.regs with pc := v } := rfl
@[simp] theorem State.setPc_ime (v : Word) : (s.setPc v).ime = s.ime := rfl
@[simp] theorem State.setPc_imePending (v : Word) : (s.setPc v).imePending = s.imePending := rfl
@[simp] theorem State.setPc_run (v : Word) : (s.setPc v).run = s.run := rfl
@[simp] theorem State.setPc_mem (v : Word) : (s.setPc v).mem = s.mem := rfl
@[simp] theorem State.setPc_boot (v : Word) : (s.setPc v).boot = s.boot := rfl
@[simp] theorem State.setPc_bootActive (v : Word) : (s.setPc v).bootActive = s.bootActive := rfl
@[simp] theorem State.setPc_joypSelect (v : Word) : (s.setPc v).joypSelect = s.joypSelect := rfl
@[simp] theorem State.setPc_buttons (v : Word) : (s.setPc v).buttons = s.buttons := rfl
@[simp] theorem State.setPc_cart (v : Word) : (s.setPc v).cart = s.cart := rfl
@[simp] theorem State.setPc_timer (v : Word) : (s.setPc v).timer = s.timer := rfl
@[simp] theorem State.setPc_ppu (v : Word) : (s.setPc v).ppu = s.ppu := rfl
@[simp] theorem State.setPc_out (v : Word) : (s.setPc v).out = s.out := rfl
@[simp] theorem State.setPc_cycles (v : Word) : (s.setPc v).cycles = s.cycles := rfl
@[simp] theorem State.setPc_cfg (v : Word) : (s.setPc v).cfg = s.cfg := rfl

@[simp] theorem State.setSp_regs (v : Word) : (s.setSp v).regs = { s.regs with sp := v } := rfl
@[simp] theorem State.setSp_ime (v : Word) : (s.setSp v).ime = s.ime := rfl
@[simp] theorem State.setSp_imePending (v : Word) : (s.setSp v).imePending = s.imePending := rfl
@[simp] theorem State.setSp_run (v : Word) : (s.setSp v).run = s.run := rfl
@[simp] theorem State.setSp_mem (v : Word) : (s.setSp v).mem = s.mem := rfl
@[simp] theorem State.setSp_boot (v : Word) : (s.setSp v).boot = s.boot := rfl
@[simp] theorem State.setSp_bootActive (v : Word) : (s.setSp v).bootActive = s.bootActive := rfl
@[simp] theorem State.setSp_joypSelect (v : Word) : (s.setSp v).joypSelect = s.joypSelect := rfl
@[simp] theorem State.setSp_buttons (v : Word) : (s.setSp v).buttons = s.buttons := rfl
@[simp] theorem State.setSp_cart (v : Word) : (s.setSp v).cart = s.cart := rfl
@[simp] theorem State.setSp_timer (v : Word) : (s.setSp v).timer = s.timer := rfl
@[simp] theorem State.setSp_ppu (v : Word) : (s.setSp v).ppu = s.ppu := rfl
@[simp] theorem State.setSp_out (v : Word) : (s.setSp v).out = s.out := rfl
@[simp] theorem State.setSp_cycles (v : Word) : (s.setSp v).cycles = s.cycles := rfl
@[simp] theorem State.setSp_cfg (v : Word) : (s.setSp v).cfg = s.cfg := rfl

@[simp] theorem State.setHl_regs (v : Word) : (s.setHl v).regs = s.regs.put16 .hl v := rfl
@[simp] theorem State.setHl_ime (v : Word) : (s.setHl v).ime = s.ime := rfl
@[simp] theorem State.setHl_imePending (v : Word) : (s.setHl v).imePending = s.imePending := rfl
@[simp] theorem State.setHl_run (v : Word) : (s.setHl v).run = s.run := rfl
@[simp] theorem State.setHl_mem (v : Word) : (s.setHl v).mem = s.mem := rfl
@[simp] theorem State.setHl_boot (v : Word) : (s.setHl v).boot = s.boot := rfl
@[simp] theorem State.setHl_bootActive (v : Word) : (s.setHl v).bootActive = s.bootActive := rfl
@[simp] theorem State.setHl_joypSelect (v : Word) : (s.setHl v).joypSelect = s.joypSelect := rfl
@[simp] theorem State.setHl_buttons (v : Word) : (s.setHl v).buttons = s.buttons := rfl
@[simp] theorem State.setHl_cart (v : Word) : (s.setHl v).cart = s.cart := rfl
@[simp] theorem State.setHl_timer (v : Word) : (s.setHl v).timer = s.timer := rfl
@[simp] theorem State.setHl_ppu (v : Word) : (s.setHl v).ppu = s.ppu := rfl
@[simp] theorem State.setHl_out (v : Word) : (s.setHl v).out = s.out := rfl
@[simp] theorem State.setHl_cycles (v : Word) : (s.setHl v).cycles = s.cycles := rfl
@[simp] theorem State.setHl_cfg (v : Word) : (s.setHl v).cfg = s.cfg := rfl

@[simp] theorem State.flags_regs (z n h c : Bool) : (s.flags z n h c).regs = { s.regs with f := flagByte z n h c } := rfl
@[simp] theorem State.flags_ime (z n h c : Bool) : (s.flags z n h c).ime = s.ime := rfl
@[simp] theorem State.flags_imePending (z n h c : Bool) : (s.flags z n h c).imePending = s.imePending := rfl
@[simp] theorem State.flags_run (z n h c : Bool) : (s.flags z n h c).run = s.run := rfl
@[simp] theorem State.flags_mem (z n h c : Bool) : (s.flags z n h c).mem = s.mem := rfl
@[simp] theorem State.flags_boot (z n h c : Bool) : (s.flags z n h c).boot = s.boot := rfl
@[simp] theorem State.flags_bootActive (z n h c : Bool) : (s.flags z n h c).bootActive = s.bootActive := rfl
@[simp] theorem State.flags_joypSelect (z n h c : Bool) : (s.flags z n h c).joypSelect = s.joypSelect := rfl
@[simp] theorem State.flags_buttons (z n h c : Bool) : (s.flags z n h c).buttons = s.buttons := rfl
@[simp] theorem State.flags_cart (z n h c : Bool) : (s.flags z n h c).cart = s.cart := rfl
@[simp] theorem State.flags_timer (z n h c : Bool) : (s.flags z n h c).timer = s.timer := rfl
@[simp] theorem State.flags_ppu (z n h c : Bool) : (s.flags z n h c).ppu = s.ppu := rfl
@[simp] theorem State.flags_out (z n h c : Bool) : (s.flags z n h c).out = s.out := rfl
@[simp] theorem State.flags_cycles (z n h c : Bool) : (s.flags z n h c).cycles = s.cycles := rfl
@[simp] theorem State.flags_cfg (z n h c : Bool) : (s.flags z n h c).cfg = s.cfg := rfl

@[simp] theorem State.setFlags_regs (o : AluOut) : (s.setFlags o).regs = { s.regs with f := flagByte o.z o.n o.h o.c } := rfl
@[simp] theorem State.setFlags_ime (o : AluOut) : (s.setFlags o).ime = s.ime := rfl
@[simp] theorem State.setFlags_imePending (o : AluOut) : (s.setFlags o).imePending = s.imePending := rfl
@[simp] theorem State.setFlags_run (o : AluOut) : (s.setFlags o).run = s.run := rfl
@[simp] theorem State.setFlags_mem (o : AluOut) : (s.setFlags o).mem = s.mem := rfl
@[simp] theorem State.setFlags_boot (o : AluOut) : (s.setFlags o).boot = s.boot := rfl
@[simp] theorem State.setFlags_bootActive (o : AluOut) : (s.setFlags o).bootActive = s.bootActive := rfl
@[simp] theorem State.setFlags_joypSelect (o : AluOut) : (s.setFlags o).joypSelect = s.joypSelect := rfl
@[simp] theorem State.setFlags_buttons (o : AluOut) : (s.setFlags o).buttons = s.buttons := rfl
@[simp] theorem State.setFlags_cart (o : AluOut) : (s.setFlags o).cart = s.cart := rfl
@[simp] theorem State.setFlags_timer (o : AluOut) : (s.setFlags o).timer = s.timer := rfl
@[simp] theorem State.setFlags_ppu (o : AluOut) : (s.setFlags o).ppu = s.ppu := rfl
@[simp] theorem State.setFlags_out (o : AluOut) : (s.setFlags o).out = s.out := rfl
@[simp] theorem State.setFlags_cycles (o : AluOut) : (s.setFlags o).cycles = s.cycles := rfl
@[simp] theorem State.setFlags_cfg (o : AluOut) : (s.setFlags o).cfg = s.cfg := rfl

@[simp] theorem State.cost_regs (c : Nat) : (s.cost c).regs = s.regs := rfl
@[simp] theorem State.cost_ime (c : Nat) : (s.cost c).ime = s.ime := rfl
@[simp] theorem State.cost_imePending (c : Nat) : (s.cost c).imePending = s.imePending := rfl
@[simp] theorem State.cost_run (c : Nat) : (s.cost c).run = s.run := rfl
@[simp] theorem State.cost_mem (c : Nat) : (s.cost c).mem = s.mem := rfl
@[simp] theorem State.cost_boot (c : Nat) : (s.cost c).boot = s.boot := rfl
@[simp] theorem State.cost_bootActive (c : Nat) : (s.cost c).bootActive = s.bootActive := rfl
@[simp] theorem State.cost_joypSelect (c : Nat) : (s.cost c).joypSelect = s.joypSelect := rfl
@[simp] theorem State.cost_buttons (c : Nat) : (s.cost c).buttons = s.buttons := rfl
@[simp] theorem State.cost_cart (c : Nat) : (s.cost c).cart = s.cart := rfl
@[simp] theorem State.cost_timer (c : Nat) : (s.cost c).timer = s.timer := rfl
@[simp] theorem State.cost_ppu (c : Nat) : (s.cost c).ppu = s.ppu := rfl
@[simp] theorem State.cost_out (c : Nat) : (s.cost c).out = s.out := rfl
@[simp] theorem State.cost_cycles (c : Nat) : (s.cost c).cycles = c := rfl
@[simp] theorem State.cost_cfg (c : Nat) : (s.cost c).cfg = s.cfg := rfl

@[simp] theorem State.diagnose_regs (d : Diagnostic) : (s.diagnose d).regs = s.regs := rfl
@[simp] theorem State.diagnose_ime (d : Diagnostic) : (s.diagnose d).ime = s.ime := rfl
@[simp] theorem State.diagnose_imePending (d : Diagnostic) : (s.diagnose d).imePending = s.imePending := rfl
@[simp] theorem State.diagnose_run (d : Diagnostic) : (s.diagnose d).run = s.run := rfl
@[simp] theorem State.diagnose_mem (d : Diagnostic) : (s.diagnose d).mem = s.mem := rfl
@[simp] theorem State.diagnose_boot (d : Diagnostic) : (s.diagnose d).boot = s.boot := rfl
@[simp] theorem State.diagnose_bootActive (d : Diagnostic) : (s.diagnose d).bootActive = s.bootActive := rfl
@[simp] theorem State.diagnose_joypSelect (d : Diagnostic) : (s.diagnose d).joypSelect = s.joypSelect := rfl
@[simp] theorem State.diagnose_buttons (d : Diagnostic) : (s.diagnose d).buttons = s.buttons := rfl
@[simp] theorem State.diagnose_cart (d : Diagnostic) : (s.diagnose d).cart = s.cart := rfl
@[simp] theorem State.diagnose_timer (d : Diagnostic) : (s.diagnose d).timer = s.timer := rfl
@[simp] theorem State.diagnose_ppu (d : Diagnostic) : (s.diagnose d).ppu = s.ppu := rfl
@[simp] theorem State.diagnose_out (d : Diagnostic) : (s.diagnose d).out = { s.out with diagnostics := s.out.diagnostics ++ [d] } := rfl
@[simp] theorem State.diagnose_cycles (d : Diagnostic) : (s.diagnose d).cycles = s.cycles := rfl
@[simp] theorem State.diagnose_cfg (d : Diagnostic) : (s.diagnose d).cfg = s.cfg := rfl

@[simp] theorem State.serialEmit_regs (v : Byte) : (s.serialEmit v).regs = s.regs := rfl
@[simp] theorem State.serialEmit_ime (v : Byte) : (s.serialEmit v).ime = s.ime := rfl
@[simp] theorem State.serialEmit_imePending (v : Byte) : (s.serialEmit v).imePending = s.imePending := rfl
@[simp] theorem State.serialEmit_run (v : Byte) : (s.serialEmit v).run = s.run := rfl
@[simp] theorem State.serialEmit_mem (v : Byte) : (s.serialEmit v).mem = s.mem := rfl
@[simp] theorem State.serialEmit_boot (v : Byte) : (s.serialEmit v).boot = s.boot := rfl
@[simp] theorem State.serialEmit_bootActive (v : Byte) : (s.serialEmit v).bootActive = s.bootActive := rfl
@[simp] theorem State.serialEmit_joypSelect (v : Byte) : (s.serialEmit v).joypSelect = s.joypSelect := rfl
@[simp] theorem State.serialEmit_buttons (v : Byte) : (s.serialEmit v).buttons = s.buttons := rfl
@[simp] theorem State.serialEmit_cart (v : Byte) : (s.serialEmit v).cart = s.cart := rfl
@[simp] theorem State.serialEmit_timer (v : Byte) : (s.serialEmit v).timer = s.timer := rfl
@[simp] theorem State.serialEmit_ppu (v : Byte) : (s.serialEmit v).ppu = s.ppu := rfl
@[simp] theorem State.serialEmit_out (v : Byte) : (s.serialEmit v).out = { s.out with serial := s.out.serial ++ [v] } := rfl
@[simp] theorem State.serialEmit_cycles (v : Byte) : (s.serialEmit v).cycles = s.cycles := rfl
@[simp] theorem State.serialEmit_cfg (v : Byte) : (s.serialEmit v).cfg = s.cfg := rfl

@[simp] theorem State.request_regs (i : Interrupt) : (s.request i).regs = s.regs := rfl
@[simp] theorem State.request_ime (i : Interrupt) : (s.request i).ime = s.ime := rfl
@[simp] theorem State.request_imePending (i : Interrupt) : (s.request i).imePending = s.imePending := rfl
@[simp] theorem State.request_run (i : Interrupt) : (s.request i).run = s.run := rfl
@[simp] theorem State.request_mem (i : Interrupt) : (s.request i).mem = s.mem.write ioIf.toNat (s.raw ioIf ||| bitMask i.bit) := rfl
@[simp] theorem State.request_boot (i : Interrupt) : (s.request i).boot = s.boot := rfl
@[simp] theorem State.request_bootActive (i : Interrupt) : (s.request i).bootActive = s.bootActive := rfl
@[simp] theorem State.request_joypSelect (i : Interrupt) : (s.request i).joypSelect = s.joypSelect := rfl
@[simp] theorem State.request_buttons (i : Interrupt) : (s.request i).buttons = s.buttons := rfl
@[simp] theorem State.request_cart (i : Interrupt) : (s.request i).cart = s.cart := rfl
@[simp] theorem State.request_timer (i : Interrupt) : (s.request i).timer = s.timer := rfl
@[simp] theorem State.request_ppu (i : Interrupt) : (s.request i).ppu = s.ppu := rfl
@[simp] theorem State.request_out (i : Interrupt) : (s.request i).out = s.out := rfl
@[simp] theorem State.request_cycles (i : Interrupt) : (s.request i).cycles = s.cycles := rfl
@[simp] theorem State.request_cfg (i : Interrupt) : (s.request i).cfg = s.cfg := rfl

@[simp] theorem State.commitEnable_regs : (s.commitEnable).regs = s.regs := rfl
@[simp] theorem State.commitEnable_ime : (s.commitEnable).ime = true := rfl
@[simp] theorem State.commitEnable_imePending : (s.commitEnable).imePending = false := rfl
@[simp] theorem State.commitEnable_run : (s.commitEnable).run = s.run := rfl
@[simp] theorem State.commitEnable_mem : (s.commitEnable).mem = s.mem := rfl
@[simp] theorem State.commitEnable_boot : (s.commitEnable).boot = s.boot := rfl
@[simp] theorem State.commitEnable_bootActive : (s.commitEnable).bootActive = s.bootActive := rfl
@[simp] theorem State.commitEnable_joypSelect : (s.commitEnable).joypSelect = s.joypSelect := rfl
@[simp] theorem State.commitEnable_buttons : (s.commitEnable).buttons = s.buttons := rfl
@[simp] theorem State.commitEnable_cart : (s.commitEnable).cart = s.cart := rfl
@[simp] theorem State.commitEnable_timer : (s.commitEnable).timer = s.timer := rfl
@[simp] theorem State.commitEnable_ppu : (s.commitEnable).ppu = s.ppu := rfl
@[simp] theorem State.commitEnable_out : (s.commitEnable).out = s.out := rfl
@[simp] theorem State.commitEnable_cycles : (s.commitEnable).cycles = s.cycles := rfl
@[simp] theorem State.commitEnable_cfg : (s.commitEnable).cfg = s.cfg := rfl

@[simp] theorem State.dropTop_regs : (s.dropTop).regs = { s.regs with sp := s.regs.sp + 2 } := rfl
@[simp] theorem State.dropTop_ime : (s.dropTop).ime = s.ime := rfl
@[simp] theorem State.dropTop_imePending : (s.dropTop).imePending = s.imePending := rfl
@[simp] theorem State.dropTop_run : (s.dropTop).run = s.run := rfl
@[simp] theorem State.dropTop_mem : (s.dropTop).mem = s.mem := rfl
@[simp] theorem State.dropTop_boot : (s.dropTop).boot = s.boot := rfl
@[simp] theorem State.dropTop_bootActive : (s.dropTop).bootActive = s.bootActive := rfl
@[simp] theorem State.dropTop_joypSelect : (s.dropTop).joypSelect = s.joypSelect := rfl
@[simp] theorem State.dropTop_buttons : (s.dropTop).buttons = s.buttons := rfl
@[simp] theorem State.dropTop_cart : (s.dropTop).cart = s.cart := rfl
@[simp] theorem State.dropTop_timer : (s.dropTop).timer = s.timer := rfl
@[simp] theorem State.dropTop_ppu : (s.dropTop).ppu = s.ppu := rfl
@[simp] theorem State.dropTop_out : (s.dropTop).out = s.out := rfl
@[simp] theorem State.dropTop_cycles : (s.dropTop).cycles = s.cycles := rfl
@[simp] theorem State.dropTop_cfg : (s.dropTop).cfg = s.cfg := rfl

@[simp] theorem State.returnToTop_regs : (s.returnToTop).regs = { s.regs with sp := s.regs.sp + 2, pc := s.stackTop } := rfl
@[simp] theorem State.returnToTop_ime : (s.returnToTop).ime = s.ime := rfl
@[simp] theorem State.returnToTop_imePending : (s.returnToTop).imePending = s.imePending := rfl
@[simp] theorem State.returnToTop_run : (s.returnToTop).run = s.run := rfl
@[simp] theorem State.returnToTop_mem : (s.returnToTop).mem = s.mem := rfl
@[simp] theorem State.returnToTop_boot : (s.returnToTop).boot = s.boot := rfl
@[simp] theorem State.returnToTop_bootActive : (s.returnToTop).bootActive = s.bootActive := rfl
@[simp] theorem State.returnToTop_joypSelect : (s.returnToTop).joypSelect = s.joypSelect := rfl
@[simp] theorem State.returnToTop_buttons : (s.returnToTop).buttons = s.buttons := rfl
@[simp] theorem State.returnToTop_cart : (s.returnToTop).cart = s.cart := rfl
@[simp] theorem State.returnToTop_timer : (s.returnToTop).timer = s.timer := rfl
@[simp] theorem State.returnToTop_ppu : (s.returnToTop).ppu = s.ppu := rfl
@[simp] theorem State.returnToTop_out : (s.returnToTop).out = s.out := rfl
@[simp] theorem State.returnToTop_cycles : (s.returnToTop).cycles = s.cycles := rfl
@[simp] theorem State.returnToTop_cfg : (s.returnToTop).cfg = s.cfg := rfl

@[simp] theorem State.returnFromInterrupt_regs : (s.returnFromInterrupt).regs = { s.regs with sp := s.regs.sp + 2, pc := s.stackTop } := rfl
@[simp] theorem State.returnFromInterrupt_ime : (s.returnFromInterrupt).ime = true := rfl
@[simp] theorem State.returnFromInterrupt_imePending : (s.returnFromInterrupt).imePending = s.imePending := rfl
@[simp] theorem State.returnFromInterrupt_run : (s.returnFromInterrupt).run = s.run := rfl
@[simp] theorem State.returnFromInterrupt_mem : (s.returnFromInterrupt).mem = s.mem := rfl
@[simp] theorem State.returnFromInterrupt_boot : (s.returnFromInterrupt).boot = s.boot := rfl
@[simp] theorem State.returnFromInterrupt_bootActive : (s.returnFromInterrupt).bootActive = s.bootActive := rfl
@[simp] theorem State.returnFromInterrupt_joypSelect : (s.returnFromInterrupt).joypSelect = s.joypSelect := rfl
@[simp] theorem State.returnFromInterrupt_buttons : (s.returnFromInterrupt).buttons = s.buttons := rfl
@[simp] theorem State.returnFromInterrupt_cart : (s.returnFromInterrupt).cart = s.cart := rfl
@[simp] theorem State.returnFromInterrupt_timer : (s.returnFromInterrupt).timer = s.timer := rfl
@[simp] theorem State.returnFromInterrupt_ppu : (s.returnFromInterrupt).ppu = s.ppu := rfl
@[simp] theorem State.returnFromInterrupt_out : (s.returnFromInterrupt).out = s.out := rfl
@[simp] theorem State.returnFromInterrupt_cycles : (s.returnFromInterrupt).cycles = s.cycles := rfl
@[simp] theorem State.returnFromInterrupt_cfg : (s.returnFromInterrupt).cfg = s.cfg := rfl

@[simp] theorem State.afterFetch_regs : (s.afterFetch).regs = { s.regs with pc := s.regs.pc + BitVec.ofNat 16 (lengthOf (s.busRead s.regs.pc)) } := rfl
@[simp] theorem State.afterFetch_ime : (s.afterFetch).ime = s.ime := rfl
@[simp] theorem State.afterFetch_imePending : (s.afterFetch).imePending = s.imePending := rfl
@[simp] theorem State.afterFetch_run : (s.afterFetch).run = s.run := rfl
@[simp] theorem State.afterFetch_mem : (s.afterFetch).mem = s.mem := rfl
@[simp] theorem State.afterFetch_boot : (s.afterFetch).boot = s.boot := rfl
@[simp] theorem State.afterFetch_bootActive : (s.afterFetch).bootActive = s.bootActive := rfl
@[simp] theorem State.afterFetch_joypSelect : (s.afterFetch).joypSelect = s.joypSelect := rfl
@[simp] theorem State.afterFetch_buttons : (s.afterFetch).buttons = s.buttons := rfl
@[simp] theorem State.afterFetch_cart : (s.afterFetch).cart = s.cart := rfl
@[simp] theorem State.afterFetch_timer : (s.afterFetch).timer = s.timer := rfl
@[simp] theorem State.afterFetch_ppu : (s.afterFetch).ppu = s.ppu := rfl
@[simp] theorem State.afterFetch_out : (s.afterFetch).out = s.out := rfl
@[simp] theorem State.afterFetch_cycles : (s.afterFetch).cycles = s.cycles := rfl
@[simp] theorem State.afterFetch_cfg : (s.afterFetch).cfg = s.cfg := rfl

@[simp] theorem State.nextLine_regs : (s.nextLine).regs = s.regs := rfl
@[simp] theorem State.nextLine_ime : (s.nextLine).ime = s.ime := rfl
@[simp] theorem State.nextLine_imePending : (s.nextLine).imePending = s.imePending := rfl
@[simp] theorem State.nextLine_run : (s.nextLine).run = s.run := rfl
@[simp] theorem State.nextLine_mem : (s.nextLine).mem = s.mem := rfl
@[simp] theorem State.nextLine_boot : (s.nextLine).boot = s.boot := rfl
@[simp] theorem State.nextLine_bootActive : (s.nextLine).bootActive = s.bootActive := rfl
@[simp] theorem State.nextLine_joypSelect : (s.nextLine).joypSelect = s.joypSelect := rfl
@[simp] theorem State.nextLine_buttons : (s.nextLine).buttons = s.buttons := rfl
@[simp] theorem State.nextLine_cart : (s.nextLine).cart = s.cart := rfl
@[simp] theorem State.nextLine_timer : (s.nextLine).timer = s.timer := rfl
@[simp] theorem State.nextLine_ppu : (s.nextLine).ppu = { s.ppu with ly := (s.ppu.ly + 1) % linesPerFrame } := rfl
@[simp] theorem State.nextLine_out : (s.nextLine).out = s.out := rfl
@[simp] theorem State.nextLine_cycles : (s.nextLine).cycles = s.cycles := rfl
@[simp] theorem State.nextLine_cfg : (s.nextLine).cfg = s.cfg := rfl

@[simp] theorem State.frameReady_regs : (s.frameReady).regs = s.regs := rfl
@[simp] theorem State.frameReady_ime : (s.frameReady).ime = s.ime := rfl
@[simp] theorem State.frameReady_imePending : (s.frameReady).imePending = s.imePending := rfl
@[simp] theorem State.frameReady_run : (s.frameReady).run = s.run := rfl
@[simp] theorem State.frameReady_mem : (s.frameReady).mem = s.mem := rfl
@[simp] theorem State.frameReady_boot : (s.frameReady).boot = s.boot := rfl
@[simp] theorem State.frameReady_bootActive : (s.frameReady).bootActive = s.bootActive := rfl
@[simp] theorem State.frameReady_joypSelect : (s.frameReady).joypSelect = s.joypSelect := rfl
@[simp] theorem State.frameReady_buttons : (s.frameReady).buttons = s.buttons := rfl
@[simp] theorem State.frameReady_cart : (s.frameReady).cart = s.cart := rfl
@[simp] theorem State.frameReady_timer : (s.frameReady).timer = s.timer := rfl
@[simp] theorem State.frameReady_ppu : (s.frameReady).ppu = s.ppu := rfl
@[simp] theorem State.frameReady_out : (s.frameReady).out = { s.out with frames := s.out.frames + 1 } := rfl
@[simp] theorem State.frameReady_cycles : (s.frameReady).cycles = s.cycles := rfl
@[simp] theorem State.frameReady_cfg : (s.frameReady).cfg = s.cfg := rfl

@[simp] theorem State.countCycles_regs : (s.countCycles).regs = s.regs := rfl
@[simp] theorem State.countCycles_ime : (s.countCycles).ime = s.ime := rfl
@[simp] theorem State.countCycles_imePending : (s.countCycles).imePending = s.imePending := rfl
@[simp] theorem State.countCycles_run : (s.countCycles).run = s.run := rfl
@[simp] theorem State.countCycles_mem : (s.countCycles).mem = s.mem := rfl
@[simp] theorem State.countCycles_boot : (s.countCycles).boot = s.boot := rfl
@[simp] theorem State.countCycles_bootActive : (s.countCycles).bootActive = s.bootActive := rfl
@[simp] theorem State.countCycles_joypSelect : (s.countCycles).joypSelect = s.joypSelect := rfl
@[simp] theorem State.countCycles_buttons : (s.countCycles).buttons = s.buttons := rfl
@[simp] theorem State.countCycles_cart : (s.countCycles).cart = s.cart := rfl
@[simp] theorem State.countCycles_timer : (s.countCycles).timer = s.timer := rfl
@[simp] theorem State.countCycles_ppu : (s.countCycles).ppu = s.ppu := rfl
@[simp] theorem State.countCycles_out : (s.countCycles).out = { s.out with totalCycles := s.out.totalCycles + s.cycles } := rfl
@[simp] theorem State.countCycles_cycles : (s.countCycles).cycles = s.cycles := rfl
@[simp] theorem State.countCycles_cfg : (s.countCycles).cfg = s.cfg := rfl

@[simp] theorem State.setButtons_regs (b : Byte) : (s.setButtons b).regs = s.regs := rfl
@[simp] theorem State.setButtons_ime (b : Byte) : (s.setButtons b).ime = s.ime := rfl
@[simp] theorem State.setButtons_imePending (b : Byte) : (s.setButtons b).imePending = s.imePending := rfl
@[simp] theorem State.setButtons_run (b : Byte) : (s.setButtons b).run = s.run := rfl
@[simp] theorem State.setButtons_mem (b : Byte) : (s.setButtons b).mem = s.mem := rfl
@[simp] theorem State.setButtons_boot (b : Byte) : (s.setButtons b).boot = s.boot := rfl
@[simp] theorem State.setButtons_bootActive (b : Byte) : (s.setButtons b).bootActive = s.bootActive := rfl
@[simp] theorem State.setButtons_joypSelect (b : Byte) : (s.setButtons b).joypSelect = s.joypSelect := rfl
@[simp] theorem State.setButtons_buttons (b : Byte) : (s.setButtons b).buttons = b := rfl
@[simp] theorem State.setButtons_cart (b : Byte) : (s.setButtons b).cart = s.cart := rfl
@[simp] theorem State.setButtons_timer (b : Byte) : (s.setButtons b).timer = s.timer := rfl
@[simp] theorem State.setButtons_ppu (b : Byte) : (s.setButtons b).ppu = s.ppu := rfl
@[simp] theorem State.setButtons_out (b : Byte) : (s.setButtons b).out = s.out := rfl
@[simp] theorem State.setButtons_cycles (b : Byte) : (s.setButtons b).cycles = s.cycles := rfl
@[simp] theorem State.setButtons_cfg (b : Byte) : (s.setButtons b).cfg = s.cfg := rfl

end

@[simp] theorem done_eq (c : Nat) (s : State) : done c s = .next (s.cost c) := rfl

@[simp] theorem State.r8_eq (s : State) (r : R8) : s.r8 r = s.regs.get r := rfl
@[simp] theorem State.r16_eq (s : State) (rr : R16) : s.r16 rr = s.regs.get16 rr := rfl
@[simp] theorem State.stkPair_eq (s : State) (rr : R16Stk) : s.stkPair rr = s.regs.getStk rr := rfl
@[simp] theorem State.hl_eq (s : State) : s.hl = concat s.regs.h s.regs.l := rfl

@[simp] theorem Regs.get_put_same (g : Regs) (r : R8) (v : Byte) : (g.put r v).get r = v := by
  cases r <;> rfl

theorem Regs.get_put_other (g : Regs) {r r' : R8} (v : Byte) (h : r' ≠ r) : (g.put r v).get r' = g.get r' := by
  cases r <;> cases r' <;> first | rfl | exact absurd rfl h

@[simp] theorem Regs.put_f (g : Regs) (r : R8) (v : Byte) : (g.put r v).f = g.f := by cases r <;> rfl
@[simp] theorem Regs.put_sp (g : Regs) (r : R8) (v : Byte) : (g.put r v).sp = g.sp := by cases r <;> rfl
@[simp] theorem Regs.put_pc (g : Regs) (r : R8) (v : Byte) : (g.put r v).pc = g.pc := by cases r <;> rfl
@[simp] theorem Regs.put16_f (g : Regs) (rr : R16) (v : Word) : (g.put16 rr v).f = g.f := by cases rr <;> rfl
@[simp] theorem Regs.put16_pc (g : Regs) (rr : R16) (v : Word) : (g.put16 rr v).pc = g.pc := by cases rr <;> rfl
@[simp] theorem Regs.putStk_sp (g : Regs) (rr : R16Stk) (v : Word) : (g.putStk rr v).sp = g.sp := by cases rr <;> rfl
@[simp] theorem Regs.putStk_pc (g : Regs) (rr : R16Stk) (v : Word) : (g.putStk rr v).pc = g.pc := by cases rr <;> rfl

end Sys2Proof.Machine
end

