-- ==== Sys2Proof/Laws/Bits.lean ====
section
/-! SUPPORT. Laws of concatenation, of the flag byte and of the register pairs. -/

namespace Sys2Proof.Machine

@[simp] theorem hiByte_concat (hi lo : Byte) : hiByte (concat hi lo) = hi := by
  apply BitVec.eq_of_getLsbD_eq
  intro i hi'
  simp only [hiByte, concat, BitVec.getLsbD_extractLsb', BitVec.getLsbD_append, hi', decide_true, Bool.true_and]
  rw [if_neg (by omega)]
  congr 1
  omega

@[simp] theorem loByte_concat (hi lo : Byte) : loByte (concat hi lo) = lo := by
  apply BitVec.eq_of_getLsbD_eq
  intro i hi'
  simp only [loByte, concat, BitVec.getLsbD_extractLsb', BitVec.getLsbD_append, hi', decide_true, Bool.true_and]
  rw [if_pos (by omega)]
  congr 1
  omega

@[simp] theorem concat_hiByte_loByte (v : Word) : concat (hiByte v) (loByte v) = v := by
  apply BitVec.eq_of_toNat_eq
  simp only [concat, hiByte, loByte, BitVec.toNat_append, BitVec.extractLsb'_toNat,
    Nat.shiftRight_eq_div_pow, Nat.shiftLeft_eq]
  have h := v.isLt
  rw [← Nat.shiftLeft_eq, ← Nat.shiftLeft_add_eq_or_of_lt (Nat.mod_lt _ (by decide)), Nat.shiftLeft_eq]
  omega

@[simp] theorem flagByte_z (z n h c : Bool) : (flagByte z n h c).getLsbD 7 = z := by
  revert z n h c; decide
@[simp] theorem flagByte_n (z n h c : Bool) : (flagByte z n h c).getLsbD 6 = n := by
  revert z n h c; decide
@[simp] theorem flagByte_h (z n h c : Bool) : (flagByte z n h c).getLsbD 5 = h := by
  revert z n h c; decide
@[simp] theorem flagByte_c (z n h c : Bool) : (flagByte z n h c).getLsbD 4 = c := by
  revert z n h c; decide
@[simp] theorem flagByte_low (z n h c : Bool) : flagByte z n h c &&& 15#8 = 0#8 := by
  revert z n h c; decide
@[simp] theorem maskF_low (v : Byte) : maskF v &&& 15#8 = 0#8 := by
  simp [maskF, BitVec.and_assoc]

@[simp] theorem State.flags_flagZ (s : State) (z n h c : Bool) : (s.flags z n h c).flagZ = z := flagByte_z z n h c
@[simp] theorem State.flags_flagN (s : State) (z n h c : Bool) : (s.flags z n h c).flagN = n := flagByte_n z n h c
@[simp] theorem State.flags_flagH (s : State) (z n h c : Bool) : (s.flags z n h c).flagH = h := flagByte_h z n h c
@[simp] theorem State.flags_flagC (s : State) (z n h c : Bool) : (s.flags z n h c).flagC = c := flagByte_c z n h c

/-- "paired-register read/write must stay consistent" (R18): a written pair reads back. -/
@[simp] theorem Regs.get16_put16_same (g : Regs) (rr : R16) (v : Word) : (g.put16 rr v).get16 rr = v := by
  cases rr <;> simp [Regs.put16, Regs.get16]

end Sys2Proof.Machine
end

