-- ==== Sys2Proof/Laws/Memory.lean ====
section
/-! SUPPORT. Laws of the list memory: read after write, the frame of a write, and that the canonical form
is kept; equal reads make equal memories. -/

namespace Sys2Proof.Machine

@[simp] theorem Memory.read_nil (a : Nat) : Memory.read [] a = 0 := rfl

theorem Memory.read_cons (k : Nat) (v : Byte) (rest : Memory) (a : Nat) :
    Memory.read ((k, v) :: rest) a = if k = a then v else Memory.read rest a := rfl

theorem Memory.read_erase (m : Memory) (a x : Nat) :
    (m.erase a).read x = if x = a then 0 else m.read x := by
  induction m with
  | nil => simp [Memory.erase]
  | cons cell rest ih =>
    obtain ⟨k, v⟩ := cell
    simp only [Memory.erase, List.filter_cons] at ih ⊢
    by_cases hk : k = a
    · subst hk
      simp only [bne_self_eq_false, Bool.false_eq_true, if_false, ih, Memory.read_cons]
      by_cases hx : x = k
      · simp [hx]
      · simp [hx, Ne.symm hx]
    · simp only [bne_iff_ne.mpr hk, if_true, Memory.read_cons, ih]
      by_cases hx : k = x
      · subst hx; simp [hk]
      · simp [hx]

theorem Memory.read_insert (m : Memory) (a : Nat) (v : Byte) (x : Nat) (ha : ∀ cell ∈ m, cell.1 ≠ a) :
    (m.insert a v).read x = if x = a then v else m.read x := by
  induction m with
  | nil => simp only [Memory.insert, Memory.read_cons, eq_comm]
  | cons cell rest ih =>
    obtain ⟨k, w⟩ := cell
    have hk : k ≠ a := ha _ (List.mem_cons_self ..)
    have ih := ih fun c hc => ha c (List.mem_cons_of_mem _ hc)
    simp only [Memory.insert]
    split
    · simp only [Memory.read_cons, eq_comm]
    · simp only [Memory.read_cons, ih]
      by_cases hx : k = x
      · subst hx; simp [hk]
      · simp [hx]

theorem Memory.erase_ne (m : Memory) (a : Nat) : ∀ cell ∈ m.erase a, cell.1 ≠ a := by
  intro cell h
  simpa [Memory.erase] using (List.mem_filter.mp h).2

/-- Everything a write does to reads. -/
theorem Memory.read_write (m : Memory) (a : Nat) (v : Byte) (x : Nat) :
    (m.write a v).read x = if x = a then v else m.read x := by
  unfold Memory.write
  split
  · next h => rw [Memory.read_erase, h]; rfl
  · rw [Memory.read_insert _ _ _ _ (m.erase_ne a), Memory.read_erase]
    by_cases hx : x = a <;> simp [hx]

@[simp] theorem Memory.read_write_same (m : Memory) (a : Nat) (v : Byte) : (m.write a v).read a = v := by
  simp [Memory.read_write]

theorem Memory.read_write_other (m : Memory) {a x : Nat} (v : Byte) (h : x ≠ a) :
    (m.write a v).read x = m.read x := by simp [Memory.read_write, h]

theorem Memory.mem_insert {m : Memory} {a : Nat} {v : Byte} {cell : Host.Cell} :
    cell ∈ m.insert a v ↔ cell = (a, v) ∨ cell ∈ m := by
  induction m with
  | nil => simp [Memory.insert]
  | cons c rest ih =>
    obtain ⟨k, w⟩ := c
    simp only [Memory.insert]
    split
    · simp
    · simp only [List.mem_cons, ih]; tauto

theorem Memory.mem_write {m : Memory} {a : Nat} {v : Byte} {cell : Host.Cell} (h : cell ∈ m.write a v) :
    cell = (a, v) ∨ cell ∈ m := by
  unfold Memory.write at h
  split at h
  · exact .inr (List.mem_filter.mp h).1
  · rcases Memory.mem_insert.mp h with h | h
    · exact .inl h
    · exact .inr (List.mem_filter.mp h).1

theorem Memory.erase_wf {m : Memory} (h : m.wf) (a : Nat) : (m.erase a).wf :=
  ⟨h.1.filter _, fun c hc => h.2 c (List.mem_filter.mp hc).1⟩

theorem Memory.insert_sorted {m : Memory} {a : Nat} {v : Byte} (h : m.Pairwise (fun x y => x.1 < y.1))
    (ha : ∀ cell ∈ m, cell.1 ≠ a) : (m.insert a v).Pairwise (fun x y => x.1 < y.1) := by
  induction m with
  | nil => simp [Memory.insert]
  | cons c rest ih =>
    obtain ⟨k, w⟩ := c
    obtain ⟨h1, h2⟩ := List.pairwise_cons.mp h
    have hk : k ≠ a := ha _ (List.mem_cons_self ..)
    simp only [Memory.insert]
    split
    · next hlt =>
      refine List.pairwise_cons.mpr ⟨fun y hy => ?_, h⟩
      rcases List.mem_cons.mp hy with rfl | hy
      · exact hlt
      · exact lt_trans hlt (h1 y hy)
    · next hge =>
      refine List.pairwise_cons.mpr ⟨fun y hy => ?_, ih h2 fun c hc => ha c (List.mem_cons_of_mem _ hc)⟩
      rcases Memory.mem_insert.mp hy with rfl | hy
      · show k < a
        omega
      · exact h1 y hy

/-- A write keeps the canonical form. -/
theorem Memory.write_wf {m : Memory} (h : m.wf) (a : Nat) (v : Byte) : (m.write a v).wf := by
  have he := Memory.erase_wf h a
  unfold Memory.write
  split
  · exact he
  · next hv =>
    refine ⟨Memory.insert_sorted he.1 (m.erase_ne a), fun c hc => ?_⟩
    rcases Memory.mem_insert.mp hc with rfl | hc
    · exact hv
    · exact he.2 c hc

theorem Memory.write_below {m : Memory} {n : Nat} (h : m.below n) {a : Nat} (ha : a < n) (v : Byte) :
    (m.write a v).below n := by
  intro c hc
  rcases Memory.mem_write hc with rfl | hc
  · exact ha
  · exact h c hc

theorem Memory.read_of_lt {m : Memory} {x : Nat} (h : ∀ c ∈ m, x < c.1) : m.read x = 0 := by
  induction m with
  | nil => rfl
  | cons c rest ih =>
    obtain ⟨k, w⟩ := c
    have hk : x < k := h (k, w) (List.mem_cons_self ..)
    rw [Memory.read_cons, if_neg (by omega)]
    exact ih fun c hc => h c (List.mem_cons_of_mem _ hc)

/-- In canonical form equal reads make equal memories. -/
theorem Memory.ext_of_read {m n : Memory} (hm : m.wf) (hn : n.wf) (h : ∀ a, m.read a = n.read a) : m = n := by
  induction m generalizing n with
  | nil =>
    cases n with
    | nil => rfl
    | cons c rest =>
      obtain ⟨k, w⟩ := c
      have := h k
      simp only [Memory.read_nil, Memory.read_cons, if_true] at this
      exact absurd this.symm (hn.2 (k, w) (List.mem_cons_self ..))
  | cons c rest ih =>
    obtain ⟨k, w⟩ := c
    have hw : w ≠ 0 := hm.2 (k, w) (List.mem_cons_self ..)
    obtain ⟨hm1, hm2⟩ := List.pairwise_cons.mp hm.1
    cases n with
    | nil =>
      have := h k
      simp only [Memory.read_nil, Memory.read_cons, if_true] at this
      exact absurd this hw
    | cons c' rest' =>
      obtain ⟨k', w'⟩ := c'
      have hw' : w' ≠ 0 := hn.2 (k', w') (List.mem_cons_self ..)
      obtain ⟨hn1, hn2⟩ := List.pairwise_cons.mp hn.1
      have hkk : k = k' := by
        rcases lt_trichotomy k k' with hlt | heq | hgt
        · have hz : Memory.read ((k', w') :: rest') k = 0 := by
            refine Memory.read_of_lt fun c hc => ?_
            rcases List.mem_cons.mp hc with rfl | hc
            · exact hlt
            · exact lt_trans hlt (hn1 c hc)
          have := h k
          rw [hz, Memory.read_cons, if_pos rfl] at this
          exact absurd this hw
        · exact heq
        · have hz : Memory.read ((k, w) :: rest) k' = 0 := by
            refine Memory.read_of_lt fun c hc => ?_
            rcases List.mem_cons.mp hc with rfl | hc
            · exact hgt
            · exact lt_trans hgt (hm1 c hc)
          have := h k'
          rw [hz, Memory.read_cons, if_pos rfl] at this
          exact absurd this.symm hw'
      subst hkk
      have hww : w = w' := by
        have := h k
        simpa only [Memory.read_cons, if_true] using this
      subst hww
      congr 1
      refine ih ⟨hm2, fun c hc => hm.2 c (List.mem_cons_of_mem _ hc)⟩
        ⟨hn2, fun c hc => hn.2 c (List.mem_cons_of_mem _ hc)⟩ fun a => ?_
      by_cases ha : k = a
      · subst ha
        rw [Memory.read_of_lt fun c hc => hm1 c hc, Memory.read_of_lt fun c hc => hn1 c hc]
      · have := h a
        simpa only [Memory.read_cons, if_neg ha] using this

theorem Image.write_wf {img : Image} (h : img.wf) {i : Nat} (hi : i < img.size) (v : Byte) :
    (img.write i v).wf := ⟨Memory.write_wf h.1 i v, Memory.write_below h.2 hi v⟩

@[simp] theorem Image.write_size (img : Image) (i : Nat) (v : Byte) : (img.write i v).size = img.size := rfl

theorem Image.read_write (img : Image) (i : Nat) (v : Byte) (x : Nat) :
    (img.write i v).read x = if x = i then v else img.read x := Memory.read_write _ _ _ _

theorem State.raw_setRaw (s : State) (a : Word) (v : Byte) (x : Word) :
    (s.setRaw a v).raw x = if x = a then v else s.raw x := by
  simp only [State.raw, State.setRaw_mem, Memory.read_write]
  by_cases h : x = a
  · simp [h]
  · have : x.toNat ≠ a.toNat := fun e => h (BitVec.eq_of_toNat_eq e)
    simp [h, this]

@[simp] theorem State.raw_setRaw_same (s : State) (a : Word) (v : Byte) : (s.setRaw a v).raw a = v := by
  simp [State.raw_setRaw]

/-- The memory at reset is in canonical form. -/
theorem State.reset_mem_wf : State.reset.mem.wf := ⟨List.Pairwise.nil, fun _ h => nomatch h⟩

theorem State.setRaw_memoriesOk {s : State} (h : s.memoriesOk) (a : Word) (v : Byte) :
    (s.setRaw a v).memoriesOk :=
  ⟨Memory.write_wf h.1 _ _, Memory.write_below h.2.1 a.isLt _, h.2.2⟩

end Sys2Proof.Machine
end

