-- ==== Sys2Proof/Laws/Bus.lean ====
section
/-! SUPPORT. Laws of the bus: what a write can change (R47), that reads and writes do not depend on the CPU
registers, read after write, and that every write keeps the canonical forms and the cartridge's ranges. -/

namespace Sys2Proof.Machine

/-- What a bus write can change, and that it never turns the overlay back on (R61). -/
structure BusFrame (s t : State) : Prop where
  same : s.onlyBus t
  overlay : t.bootActive = true → s.bootActive = true

theorem BusFrame.refl (s : State) : BusFrame s s := ⟨rfl, id⟩

theorem BusFrame.trans {s t u : State} (h : BusFrame s t) (k : BusFrame t u) : BusFrame s u := by
  refine ⟨?_, fun hu => h.overlay (k.overlay hu)⟩
  have hs := h.same
  have kt := k.same
  unfold State.onlyBus at *
  rw [kt, hs]

theorem Cart.write_frame (c : Cart) (a : Nat) (v : Byte) :
    c.write a v = { c.write a v with
      rom := c.rom, kind := c.kind, eram := ⟨c.eram.size, (c.write a v).eram.cells⟩ } := by
  unfold Cart.write
  split
  · rfl
  · unfold Cart.writeMbc1
    repeat' split
    all_goals rfl

theorem State.busWriteNoDma_busFrame (s : State) (a : Word) (v : Byte) : BusFrame s (s.busWriteNoDma a v) := by
  unfold State.busWriteNoDma
  repeat' split
  all_goals refine ⟨?_, ?_⟩
  all_goals try rfl
  all_goals try exact id
  · show State.mk .. = State.mk ..
    simp only [State.mk.injEq, true_and, and_true]
    exact Cart.write_frame ..
  · intro h
    simp only [Bool.and_eq_true] at h
    exact h.1

theorem State.dmaFold_busFrame (page : Byte) (l : List Nat) (s : State) :
    BusFrame s (l.foldl (State.dmaCopy page) s) := by
  induction l generalizing s with
  | nil => exact .refl s
  | cons i rest ih => exact (State.busWriteNoDma_busFrame s _ _).trans (ih _)

theorem State.busWrite_busFrame (s : State) (a : Word) (v : Byte) : BusFrame s (s.busWrite a v) := by
  unfold State.busWrite State.oamDma
  split
  · exact BusFrame.trans (t := s.setRaw a v) ⟨rfl, id⟩ (State.dmaFold_busFrame v _ _)
  · exact State.busWriteNoDma_busFrame s a v

section
variable (s : State) (a : Word) (v : Byte)

@[simp] theorem State.busWrite_regs : (s.busWrite a v).regs = s.regs :=
  (congrArg State.regs (s.busWrite_busFrame a v).same :)
@[simp] theorem State.busWrite_ime : (s.busWrite a v).ime = s.ime :=
  (congrArg State.ime (s.busWrite_busFrame a v).same :)
@[simp] theorem State.busWrite_imePending : (s.busWrite a v).imePending = s.imePending :=
  (congrArg State.imePending (s.busWrite_busFrame a v).same :)
@[simp] theorem State.busWrite_run : (s.busWrite a v).run = s.run :=
  (congrArg State.run (s.busWrite_busFrame a v).same :)
@[simp] theorem State.busWrite_boot : (s.busWrite a v).boot = s.boot :=
  (congrArg State.boot (s.busWrite_busFrame a v).same :)
@[simp] theorem State.busWrite_buttons : (s.busWrite a v).buttons = s.buttons :=
  (congrArg State.buttons (s.busWrite_busFrame a v).same :)
@[simp] theorem State.busWrite_timer : (s.busWrite a v).timer = s.timer :=
  (congrArg State.timer (s.busWrite_busFrame a v).same :)
@[simp] theorem State.busWrite_ppu : (s.busWrite a v).ppu = s.ppu :=
  (congrArg State.ppu (s.busWrite_busFrame a v).same :)
@[simp] theorem State.busWrite_cycles : (s.busWrite a v).cycles = s.cycles :=
  (congrArg State.cycles (s.busWrite_busFrame a v).same :)
@[simp] theorem State.busWrite_cfg : (s.busWrite a v).cfg = s.cfg :=
  (congrArg State.cfg (s.busWrite_busFrame a v).same :)
@[simp] theorem State.busWrite_rom : (s.busWrite a v).cart.rom = s.cart.rom :=
  (congrArg (fun t => t.cart.rom) (s.busWrite_busFrame a v).same :)
@[simp] theorem State.busWrite_kind : (s.busWrite a v).cart.kind = s.cart.kind :=
  (congrArg (fun t => t.cart.kind) (s.busWrite_busFrame a v).same :)
@[simp] theorem State.busWrite_eramSize : (s.busWrite a v).cart.eram.size = s.cart.eram.size :=
  (congrArg (fun t => t.cart.eram.size) (s.busWrite_busFrame a v).same :)
@[simp] theorem State.busWrite_totalCycles : (s.busWrite a v).out.totalCycles = s.out.totalCycles :=
  (congrArg (fun t => t.out.totalCycles) (s.busWrite_busFrame a v).same :)
@[simp] theorem State.busWrite_trace : (s.busWrite a v).out.trace = s.out.trace :=
  (congrArg (fun t => t.out.trace) (s.busWrite_busFrame a v).same :)
@[simp] theorem State.busWrite_diagnostics : (s.busWrite a v).out.diagnostics = s.out.diagnostics :=
  (congrArg (fun t => t.out.diagnostics) (s.busWrite_busFrame a v).same :)
@[simp] theorem State.busWrite_frames : (s.busWrite a v).out.frames = s.out.frames :=
  (congrArg (fun t => t.out.frames) (s.busWrite_busFrame a v).same :)

end

/-- The state with the CPU's own part replaced: what the bus never looks at. -/
def State.withCpu (s : State) (g : Regs) (ime pend : Bool) (run : RunState) (c : Nat) : State :=
  { s with regs := g, ime := ime, imePending := pend, run := run, cycles := c }

section
variable (s : State) (g : Regs) (ime pend : Bool) (run : RunState) (c : Nat)

theorem State.busRead_withCpu (a : Word) : (s.withCpu g ime pend run c).busRead a = s.busRead a := rfl

theorem State.busWriteNoDma_withCpu (a : Word) (v : Byte) :
    (s.withCpu g ime pend run c).busWriteNoDma a v = (s.busWriteNoDma a v).withCpu g ime pend run c := by
  unfold State.busWriteNoDma
  simp only [show ∀ x, (s.withCpu g ime pend run c).overlaid x = s.overlaid x from fun _ => rfl,
    show (s.withCpu g ime pend run c).cfg = s.cfg from rfl]
  repeat' split
  all_goals rfl

theorem State.dmaFold_withCpu (page : Byte) (l : List Nat) :
    l.foldl (State.dmaCopy page) (s.withCpu g ime pend run c) =
      (l.foldl (State.dmaCopy page) s).withCpu g ime pend run c := by
  induction l generalizing s with
  | nil => rfl
  | cons i rest ih =>
    simp only [List.foldl_cons, State.dmaCopy, State.busRead_withCpu, State.busWriteNoDma_withCpu]
    exact ih (s.dmaCopy page i)

theorem State.busWrite_withCpu (a : Word) (v : Byte) :
    (s.withCpu g ime pend run c).busWrite a v = (s.busWrite a v).withCpu g ime pend run c := by
  unfold State.busWrite State.oamDma
  split
  · exact State.dmaFold_withCpu (s.setRaw a v) g ime pend run c v _
  · exact State.busWriteNoDma_withCpu ..

end

/-- A bus read looks at no CPU register. -/
theorem State.busRead_setRegs (s : State) (g : Regs) (a : Word) : ({ s with regs := g }).busRead a = s.busRead a := rfl

/-- A bus write looks at no CPU register. -/
theorem State.busWrite_setRegs (s : State) (g : Regs) (a : Word) (v : Byte) :
    ({ s with regs := g }).busWrite a v = { s.busWrite a v with regs := g } := by
  have h := s.busWrite_withCpu g s.ime s.imePending s.run s.cycles a v
  simp only [State.withCpu] at h
  rw [h]
  congr 1
  all_goals simp

@[simp] theorem State.busWrite_setPc (s : State) (w a : Word) (v : Byte) :
    (s.setPc w).busWrite a v = (s.busWrite a v).setPc w := by
  simp only [State.setPc, State.busWrite_setRegs, State.busWrite_regs]
@[simp] theorem State.busWrite_setSp (s : State) (w a : Word) (v : Byte) :
    (s.setSp w).busWrite a v = (s.busWrite a v).setSp w := by
  simp only [State.setSp, State.busWrite_setRegs, State.busWrite_regs]
@[simp] theorem State.busRead_setPc (s : State) (w a : Word) : (s.setPc w).busRead a = s.busRead a := rfl
@[simp] theorem State.busRead_setSp (s : State) (w a : Word) : (s.setSp w).busRead a = s.busRead a := rfl
@[simp] theorem State.busRead_setR8 (s : State) (r : R8) (v : Byte) (a : Word) :
    (s.setR8 r v).busRead a = s.busRead a := rfl
@[simp] theorem State.busRead_setR16 (s : State) (rr : R16) (v a : Word) :
    (s.setR16 rr v).busRead a = s.busRead a := rfl
@[simp] theorem State.busRead_flags (s : State) (z n h c : Bool) (a : Word) :
    (s.flags z n h c).busRead a = s.busRead a := rfl
@[simp] theorem State.busRead_cost (s : State) (n : Nat) (a : Word) : (s.cost n).busRead a = s.busRead a := rfl

/-- `push16` (R13) as two bus writes, the high byte first, and SP 2 lower. -/
theorem State.push16_eq (s : State) (v : Word) :
    s.push16 v = (((s.busWrite (s.regs.sp - 1) (hiByte v)).busWrite (s.regs.sp - 2) (loByte v)).setSp
      (s.regs.sp - 2)) := by
  have h : s.regs.sp - 1 - 1 = s.regs.sp - 2 := by
    rw [BitVec.sub_sub]
    rfl
  unfold State.push16
  simp only [State.busWrite_setSp, State.busWrite_regs, State.setSp_regs, h]
  rfl

/-- An address outside the cartridge, the joypad register and a covered overlay reads the backing array. -/
theorem State.busRead_plain {s : State} {a : Word} (ho : s.overlaid a = false) (hc : inCartWindow a = false)
    (hj : a ≠ ioJoyp) : s.busRead a = s.raw a := by
  simp [State.busRead, ho, hc, hj]

/-- Reads of other addresses depend on nothing a write to plain memory changes. -/
theorem State.busRead_setRaw_other {s : State} {a x : Word} (v : Byte) (h : x ≠ a) :
    (s.setRaw a v).busRead x = s.busRead x := by
  have hr : (s.setRaw a v).raw x = s.raw x := by simp [State.raw_setRaw, h]
  unfold State.busRead
  rw [hr]
  rfl

/-- The frame of a local store (`State.localStore`): every other address reads as before. -/
theorem State.busWrite_other {s : State} {a x : Word} {v : Byte} (h : s.localStore a v) (hx : x ≠ a) :
    (s.busWrite a v).busRead x = s.busRead x := by
  have hd : a ≠ ioDma ∨ s.overlaid a = true := h.elim .inr fun h => .inl h.2.1
  have hover : s.overlaid a = true → a ≠ ioDma := by
    rintro ho rfl
    simp [State.overlaid, ioDma] at ho
  have hd : a ≠ ioDma := hd.elim id hover
  unfold State.busWrite
  rw [if_neg hd]
  unfold State.busWriteNoDma
  by_cases ho : s.overlaid a = true
  · rw [if_pos ho]
  · rw [if_neg ho]
    obtain ⟨hc, -, hb⟩ := h.resolve_left ho
    rw [if_neg (by simp [hc])]
    split
    · next hj => subst hj; simp only [State.busRead, hx, if_false]; rfl
    · split
      · split <;> exact State.busRead_setRaw_other (s := s) v hx
      · split
        · exact State.busRead_setRaw_other 0 hx
        · split
          · next hboot =>
            have : (s.bootActive && v == 0) = s.bootActive := by
              rcases hb hboot with rfl | hb
              · simp
              · simp [hb]
            rw [this]
            exact State.busRead_setRaw_other v hx
          · exact State.busRead_setRaw_other v hx

/-- The cartridge ranges a write keeps (R54): the low bank number stays nonzero. -/
theorem Cart.write_bankLo {c : Cart} (h : c.bankLo ≠ 0) (a : Nat) (v : Byte) : (c.write a v).bankLo ≠ 0 := by
  unfold Cart.write
  split
  · exact h
  · unfold Cart.writeMbc1
    repeat' split
    all_goals first | exact h | assumption | exact (by decide : (1 : BitVec 5) ≠ 0)

theorem Cart.write_eram_wf {c : Cart} (h : c.eram.wf) (a : Nat) (v : Byte) : (c.write a v).eram.wf := by
  unfold Cart.write
  split
  · exact h
  · unfold Cart.writeMbc1
    repeat' split
    all_goals first | exact h | skip
    next ho =>
      refine Image.write_wf h (Nat.mod_lt _ ?_) v
      simp only [Cart.ramOpen, Bool.and_eq_true, bne_iff_ne] at ho
      omega

/-- The parts of the invariant that bus writes touch. -/
abbrev State.busInv (s : State) : Prop := s.memoriesOk ∧ s.cart.bankLo ≠ 0

theorem State.busWriteNoDma_busInv {s : State} (h : s.busInv) (a : Word) (v : Byte) :
    (s.busWriteNoDma a v).busInv := by
  obtain ⟨hm, hb⟩ := h
  have hr : ∀ w, (s.setRaw a w).memoriesOk := fun w => State.setRaw_memoriesOk hm a w
  unfold State.busWriteNoDma
  repeat' split
  all_goals first | exact ⟨hm, hb⟩ | exact ⟨hr _, hb⟩ | skip
  obtain ⟨h1, h2, h3, h4, h5⟩ := hm
  refine ⟨⟨h1, h2, h3, ?_, Cart.write_eram_wf h5 _ v⟩, Cart.write_bankLo hb _ v⟩
  rw [Cart.write_frame]
  exact h4

theorem State.busWrite_busInv {s : State} (h : s.busInv) (a : Word) (v : Byte) : (s.busWrite a v).busInv := by
  unfold State.busWrite State.oamDma
  split
  · have key : ∀ (l : List Nat) (u : State), u.busInv → (l.foldl (State.dmaCopy v) u).busInv := by
      intro l
      induction l with
      | nil => exact fun u hu => hu
      | cons i rest ih => exact fun u hu => ih _ (State.busWriteNoDma_busInv hu _ _)
    exact key _ _ ⟨State.setRaw_memoriesOk h.1 a v, h.2⟩
  · exact State.busWriteNoDma_busInv h a v

end Sys2Proof.Machine
end

