-- ==== Sys2Proof/Laws/Devices.lean ====
section
/-! SUPPORT. Laws of the timer and the PPU: what their advance can change (`DeviceFrame`), and where it
leaves their counters. -/

namespace Sys2Proof.Machine

/-- Everything the timer and the PPU can change (R214, R217, R232): five bytes of the backing array, their
own state, the cycle count and the frame count. They only set bits of IF (R207). -/
structure DeviceFrame (s t : State) : Prop where
  same : t = { s with
    mem := t.mem
    timer := t.timer
    ppu := t.ppu
    out := { s.out with totalCycles := t.out.totalCycles, frames := t.out.frames } }
  memories : s.memoriesOk → t.memoriesOk
  raw : ∀ a, a ∉ [ioDiv, ioTima, ioIf, ioLy, ioStat] → t.raw a = s.raw a
  requests : ∀ i, (s.raw ioIf).getLsbD i = true → (t.raw ioIf).getLsbD i = true

theorem DeviceFrame.refl (s : State) : DeviceFrame s s := ⟨rfl, id, fun _ _ => rfl, fun _ => id⟩

theorem DeviceFrame.trans {s t u : State} (h : DeviceFrame s t) (k : DeviceFrame t u) : DeviceFrame s u where
  same := by
    have hs := h.same
    have kt := k.same
    rw [kt, hs]
  memories := fun hs => k.memories (h.memories hs)
  raw := fun a ha => (k.raw a ha).trans (h.raw a ha)
  requests := fun i hi => k.requests i (h.requests i hi)

/-- A state whose memory is the same. -/
theorem DeviceFrame.counters {s : State} (ti : Timer) (pp : Ppu) (total frames : Nat) :
    DeviceFrame s { s with timer := ti, ppu := pp, out := { s.out with totalCycles := total, frames := frames } } :=
  ⟨rfl, id, fun _ _ => rfl, fun _ => id⟩

theorem DeviceFrame.setRaw {s : State} {a : Word} (v : Byte) (ha : a ∈ [ioDiv, ioTima, ioLy, ioStat]) :
    DeviceFrame s (s.setRaw a v) where
  same := rfl
  memories := fun h => State.setRaw_memoriesOk h a v
  raw := fun x hx => by
    rw [State.raw_setRaw, if_neg]
    rintro rfl
    revert ha hx
    simp only [List.mem_cons]
    tauto
  requests := fun i hi => by
    rw [State.raw_setRaw, if_neg]
    · exact hi
    · rintro rfl
      revert ha
      decide

theorem DeviceFrame.request (s : State) (i : Interrupt) : DeviceFrame s (s.request i) where
  same := rfl
  memories := fun h => State.setRaw_memoriesOk h _ _
  raw := fun x hx => by
    unfold State.request
    rw [State.raw_setRaw, if_neg]
    rintro rfl
    exact hx (by decide)
  requests := fun j hj => by
    unfold State.request
    rw [State.raw_setRaw_same, BitVec.getLsbD_or, hj, Bool.true_or]

/-- `request` sets its own bit. -/
theorem State.request_sets (s : State) (i : Interrupt) : ((s.request i).raw ioIf).getLsbD i.bit = true := by
  unfold State.request
  rw [State.raw_setRaw_same, BitVec.getLsbD_or]
  cases i <;> simp [bitMask, Interrupt.bit]

theorem repeatTick_frame {tick : State → State} (h : ∀ s, DeviceFrame s (tick s)) (n : Nat) (s : State) :
    DeviceFrame s (repeatTick tick n s) := by
  induction n generalizing s with
  | zero => exact .refl s
  | succ n ih => exact (h s).trans (ih _)

/-- What every tick keeps, any number of ticks keep. -/
theorem repeatTick_keeps {α : Type} {tick : State → State} (f : State → α) (h : ∀ s, f (tick s) = f s) (n : Nat)
    (s : State) : f (repeatTick tick n s) = f s := by
  induction n generalizing s with
  | zero => rfl
  | succ n ih => exact (ih _).trans (h s)

theorem State.divTick_frame (s : State) : DeviceFrame s s.divTick := .setRaw _ (by decide)

theorem State.timaTick_frame (s : State) : DeviceFrame s s.timaTick := by
  unfold State.timaTick
  split
  · exact (DeviceFrame.setRaw _ (by decide)).trans (.request _ _)
  · exact .setRaw _ (by decide)

theorem State.divAdvance_frame (s : State) (c : Nat) : DeviceFrame s (s.divAdvance c) :=
  (repeatTick_frame State.divTick_frame _ s).trans (DeviceFrame.counters _ _ _ _)

theorem State.timaAdvance_frame (s : State) (c : Nat) : DeviceFrame s (s.timaAdvance c) := by
  unfold State.timaAdvance
  split
  · exact (repeatTick_frame State.timaTick_frame _ s).trans (DeviceFrame.counters _ _ _ _)
  · exact .refl s

theorem State.timerAdvance_frame (s : State) (c : Nat) : DeviceFrame s (s.timerAdvance c) :=
  (State.divAdvance_frame s c).trans (State.timaAdvance_frame _ c)

/-- The timer keeps the PPU, the cycle count and the frame count. -/
theorem State.timerAdvance_keeps (s : State) (c : Nat) :
    (s.timerAdvance c).ppu = s.ppu ∧ (s.timerAdvance c).out = s.out := by
  have hd : ∀ n u, (repeatTick State.divTick n u).ppu = u.ppu ∧ (repeatTick State.divTick n u).out = u.out :=
    fun n u => ⟨repeatTick_keeps (tick := State.divTick) State.ppu (fun _ => rfl) n u,
      repeatTick_keeps (tick := State.divTick) State.out (fun _ => rfl) n u⟩
  have tick : ∀ u : State, u.timaTick.ppu = u.ppu ∧ u.timaTick.out = u.out := by
    intro u
    unfold State.timaTick
    split <;> exact ⟨rfl, rfl⟩
  have ht : ∀ n u, (repeatTick State.timaTick n u).ppu = u.ppu ∧ (repeatTick State.timaTick n u).out = u.out :=
    fun n u => ⟨repeatTick_keeps State.ppu (fun u => (tick u).1) n u,
      repeatTick_keeps State.out (fun u => (tick u).2) n u⟩
  unfold State.timerAdvance State.timaAdvance
  split
  · exact ⟨(ht _ _).1.trans (hd _ _).1, (ht _ _).2.trans (hd _ _).2⟩
  · exact hd _ _

/-- The divider's residue (R214, R215). -/
theorem State.timerAdvance_divAcc (s : State) (c : Nat) :
    (s.timerAdvance c).timer.divAcc = (s.timer.divAcc + c) % 256 := by
  have tick : ∀ u : State, u.timaTick.timer = u.timer := by
    intro u
    unfold State.timaTick
    split <;> rfl
  have ht := repeatTick_keeps (tick := State.timaTick) State.timer tick
  unfold State.timerAdvance State.timaAdvance
  split
  · show (repeatTick State.timaTick _ _).timer.divAcc = _
    rw [ht]
    rfl
  · rfl

theorem State.renderCurrentLine_frame (s : State) : DeviceFrame s s.renderCurrentLine := by
  unfold State.renderCurrentLine
  split
  · exact .counters _ _ _ _
  · exact .refl s

theorem State.enterLine_frame (s : State) : DeviceFrame s s.enterLine := by
  unfold State.enterLine
  split
  · exact (DeviceFrame.request s _).trans (DeviceFrame.counters _ _ _ _)
  · exact .refl s

theorem State.finishLine_frame (s : State) : DeviceFrame s s.finishLine :=
  ((State.renderCurrentLine_frame s).trans (DeviceFrame.counters _ _ _ _)).trans (State.enterLine_frame _)

theorem State.requestStat_frame (s : State) : DeviceFrame s s.requestStat := by
  unfold State.requestStat
  split
  · exact .request s _
  · exact .refl s

theorem State.ppuPublish_frame (s : State) : DeviceFrame s s.ppuPublish :=
  (((DeviceFrame.counters _ _ _ _).trans (.setRaw _ (by decide))).trans (.setRaw _ (by decide))).trans
    (State.requestStat_frame _)

theorem State.ppuAdvance_frame (s : State) (c : Nat) : DeviceFrame s (s.ppuAdvance c) :=
  ((repeatTick_frame State.finishLine_frame _ s).trans (DeviceFrame.counters _ _ _ _)).trans
    (State.ppuPublish_frame _)

theorem State.advanceDevices_frame (s : State) : DeviceFrame s s.advanceDevices :=
  ((State.timerAdvance_frame s _).trans (State.ppuAdvance_frame _ _)).trans (DeviceFrame.counters _ _ _ _)

theorem State.renderCurrentLine_ly (s : State) : s.renderCurrentLine.ppu.ly = s.ppu.ly := by
  unfold State.renderCurrentLine
  split <;> rfl

theorem State.enterLine_ppu (s : State) : s.enterLine.ppu = s.ppu := by
  unfold State.enterLine
  split <;> rfl

theorem State.finishLine_ly (s : State) : s.finishLine.ppu.ly = (s.ppu.ly + 1) % 154 := by
  unfold State.finishLine
  rw [State.enterLine_ppu]
  show (s.renderCurrentLine.ppu.ly + 1) % 154 = _
  rw [State.renderCurrentLine_ly]

theorem repeatTick_finishLine_ly (n : Nat) (s : State) :
    (repeatTick State.finishLine n s).ppu.ly = if n = 0 then s.ppu.ly else (s.ppu.ly + n) % 154 := by
  induction n generalizing s with
  | zero => rfl
  | succ n ih =>
    show (repeatTick State.finishLine n s.finishLine).ppu.ly = _
    rw [ih, State.finishLine_ly]
    split <;> simp <;> omega

theorem State.requestStat_eq (s : State) : s.requestStat = { s with mem := s.requestStat.mem } := by
  unfold State.requestStat
  split <;> rfl

/-- The publication changes the mode and memory only. -/
theorem State.ppuPublish_eq (s : State) :
    s.ppuPublish = { s with
      mem := s.ppuPublish.mem
      ppu := { s.ppu with mode := ppuModeAt s.ppu.ly s.ppu.dot } } := by
  unfold State.ppuPublish
  rw [State.requestStat_eq]
  rfl

theorem State.ppuPublish_ppu (s : State) :
    s.ppuPublish.ppu = { s.ppu with mode := ppuModeAt s.ppu.ly s.ppu.dot } := by
  rw [State.ppuPublish_eq]

/-- A finished line leaves the timer and the cycle count. -/
theorem State.finishLine_keeps (s : State) :
    s.finishLine.timer = s.timer ∧ s.finishLine.out.totalCycles = s.out.totalCycles := by
  unfold State.finishLine State.renderCurrentLine State.enterLine
  split <;> split <;> exact ⟨rfl, rfl⟩

/-- So does the whole advance. -/
theorem State.ppuAdvance_keeps (s : State) (c : Nat) :
    (s.ppuAdvance c).timer = s.timer ∧ (s.ppuAdvance c).out.totalCycles = s.out.totalCycles := by
  unfold State.ppuAdvance
  rw [State.ppuPublish_eq]
  exact ⟨repeatTick_keeps State.timer (fun u => u.finishLine_keeps.1) _ _,
    repeatTick_keeps (fun u => u.out.totalCycles) (fun u => u.finishLine_keeps.2) _ _⟩

/-- Where the PPU stands after an advance (R216, R217). -/
theorem State.ppuAdvance_counters (s : State) (c : Nat) :
    (s.ppuAdvance c).ppu.ly =
        (if s.ppu.dot + c < 456 then s.ppu.ly else (s.ppu.ly + (s.ppu.dot + c) / 456) % 154) ∧
      (s.ppuAdvance c).ppu.dot = (s.ppu.dot + c) % 456 ∧
      (s.ppuAdvance c).ppu.mode = ppuModeAt (s.ppuAdvance c).ppu.ly (s.ppuAdvance c).ppu.dot := by
  unfold State.ppuAdvance
  simp only [State.ppuPublish_ppu, repeatTick_finishLine_ly, dotsPerLine, and_true]
  by_cases h : s.ppu.dot + c < 456
  · simp [h, Nat.div_eq_of_lt h]
  · have : (s.ppu.dot + c) / 456 ≠ 0 := by omega
    simp [h, this]

/-- The clocks after the devices advanced (R232). -/
theorem State.advanceDevices_clock (s : State) :
    s.advanceDevices.out.totalCycles = s.out.totalCycles + s.cycles ∧
      s.advanceDevices.timer.divAcc = (s.timer.divAcc + s.cycles) % 256 ∧
      s.advanceDevices.ppu.ly =
        (if s.ppu.dot + s.cycles < 456 then s.ppu.ly else (s.ppu.ly + (s.ppu.dot + s.cycles) / 456) % 154) ∧
      s.advanceDevices.ppu.dot = (s.ppu.dot + s.cycles) % 456 ∧
      s.advanceDevices.ppu.mode = ppuModeAt s.advanceDevices.ppu.ly s.advanceDevices.ppu.dot := by
  have hp := State.ppuAdvance_counters (s.timerAdvance s.cycles) s.cycles
  obtain ⟨hk, ho⟩ := State.timerAdvance_keeps s s.cycles
  rw [hk] at hp
  obtain ⟨hpt, htc⟩ := State.ppuAdvance_keeps (s.timerAdvance s.cycles) s.cycles
  rw [ho] at htc
  have hcy : ((s.timerAdvance s.cycles).ppuAdvance s.cycles).cycles = s.cycles :=
    (congrArg State.cycles ((State.timerAdvance_frame s _).trans (State.ppuAdvance_frame _ _)).same :)
  refine ⟨?_, ?_, hp⟩
  · show ((s.timerAdvance s.cycles).ppuAdvance s.cycles).out.totalCycles +
      ((s.timerAdvance s.cycles).ppuAdvance s.cycles).cycles = _
    rw [htc, hcy]
  · show ((s.timerAdvance s.cycles).ppuAdvance s.cycles).timer.divAcc = _
    rw [hpt, State.timerAdvance_divAcc]

/-- Where a request reads: IF with the source's bit set, every other byte as before (R207). -/
theorem State.raw_request (s : State) (i : Interrupt) (x : Word) :
    (s.request i).raw x = if x = ioIf then s.raw ioIf ||| bitMask i.bit else s.raw x :=
  State.raw_setRaw _ _ _ _

/-- Everything a finished line does to the bytes and the frame count (R217, R218, R224): entering line 144 sets
the V-Blank bit of IF and emits one frame; nothing else. -/
theorem State.finishLine_raw (s : State) (x : Word) :
    s.finishLine.raw x =
      if (s.ppu.ly + 1) % 154 = 144 then (if x = ioIf then s.raw ioIf ||| 0x01 else s.raw x) else s.raw x := by
  have hm : s.renderCurrentLine.nextLine.raw x = s.raw x := by
    unfold State.renderCurrentLine
    split <;> rfl
  have hi : s.renderCurrentLine.nextLine.raw ioIf = s.raw ioIf := by
    unfold State.renderCurrentLine
    split <;> rfl
  have hl : s.renderCurrentLine.nextLine.ppu.ly = (s.ppu.ly + 1) % 154 := by
    show (s.renderCurrentLine.ppu.ly + 1) % 154 = _
    rw [State.renderCurrentLine_ly]
  unfold State.finishLine State.enterLine
  rw [hl]
  split
  · rw [if_pos ‹_›, ← hm, ← hi]
    exact State.raw_request _ _ _
  · rw [if_neg ‹_›, hm]

theorem State.finishLine_frames (s : State) :
    s.finishLine.out.frames = s.out.frames + if (s.ppu.ly + 1) % 154 = 144 then 1 else 0 := by
  have hf : s.renderCurrentLine.nextLine.out.frames = s.out.frames := by
    unfold State.renderCurrentLine
    split <;> rfl
  have hl : s.renderCurrentLine.nextLine.ppu.ly = (s.ppu.ly + 1) % 154 := by
    show (s.renderCurrentLine.ppu.ly + 1) % 154 = _
    rw [State.renderCurrentLine_ly]
  unfold State.finishLine State.enterLine
  rw [hl]
  split
  · rw [if_pos ‹_›, ← hf]
    rfl
  · rw [if_neg ‹_›, hf]
    rfl

/-- Everything the end of the PPU advance does to the bytes (R217, R219): LY, STAT, and the STAT bit of IF, set
exactly where LY = LYC and STAT bit 6 is 1. -/
theorem State.ppuPublish_raw (s : State) (x : Word) :
    s.ppuPublish.raw x =
      if x = ioIf then
        if s.coincidence = true ∧ (s.raw ioStat).getLsbD 6 = true then s.raw ioIf ||| 0x02 else s.raw ioIf
      else if x = ioStat then statByte (s.raw ioStat) s.coincidence (ppuModeAt s.ppu.ly s.ppu.dot)
      else if x = ioLy then BitVec.ofNat 8 s.ppu.ly
      else s.raw x := by
  have hp : ∀ y, s.updateMode.publishLy.publishStat.raw y =
      if y = ioStat then statByte (s.raw ioStat) s.coincidence (ppuModeAt s.ppu.ly s.ppu.dot)
      else if y = ioLy then BitVec.ofNat 8 s.ppu.ly else s.raw y := by
    intro y
    have h1 : s.updateMode.publishLy.raw ioStat = s.raw ioStat :=
      (State.raw_setRaw _ _ _ _).trans (if_neg (by decide))
    have h2 : s.updateMode.publishLy.coincidence = s.coincidence := by
      show decide (s.ppu.ly = (s.updateMode.publishLy.raw ioLyc).toNat) = _
      rw [show s.updateMode.publishLy.raw ioLyc = s.raw ioLyc from
        (State.raw_setRaw _ _ _ _).trans (if_neg (by decide))]
      rfl
    unfold State.publishStat
    rw [State.raw_setRaw, h1, h2]
    exact if_congr Iff.rfl rfl (State.raw_setRaw _ _ _ _)
  have hc : s.updateMode.publishLy.publishStat.coincidence = s.coincidence := by
    show decide (s.ppu.ly = (s.updateMode.publishLy.publishStat.raw ioLyc).toNat) = _
    rw [hp, if_neg (by decide), if_neg (by decide)]
    rfl
  have h6 : (s.updateMode.publishLy.publishStat.raw ioStat).getLsbD 6 = (s.raw ioStat).getLsbD 6 := by
    rw [hp, if_pos rfl, statByte]
    simp only [BitVec.getLsbD_append, BitVec.getLsbD_extractLsb']
    rfl
  have hi : s.updateMode.publishLy.publishStat.raw ioIf = s.raw ioIf := by
    rw [hp, if_neg (by decide), if_neg (by decide)]
  unfold State.ppuPublish State.requestStat
  rw [hc, h6]
  by_cases hx : x = ioIf
  · subst hx
    rw [if_pos rfl]
    by_cases h : s.coincidence = true ∧ (s.raw ioStat).getLsbD 6 = true
    · rw [if_pos h, if_pos (by simpa using h), State.raw_request, if_pos rfl, hi]
      rfl
    · rw [if_neg h, if_neg (by simpa using h), hi]
  · rw [if_neg hx]
    split
    · rw [State.raw_request, if_neg hx, hp]
    · exact hp x

end Sys2Proof.Machine
end

