-- ==== Sys2Proof/Laws/Exec.lean ====
section
/-! SUPPORT. What an instruction can change: one inversion lemma for all of `exec`, built from one lemma
per shared operation. Later proofs cite `exec_touch` and do not unfold a meaning. -/

namespace Sys2Proof.Machine

/-- Everything an instruction keeps, whatever it is: the images, the buttons, the parameters, the devices,
the cycle count, the trace, the frame count; the boot overlay never comes back (R61), the canonical forms
stay, F keeps its low bits clear (R20), Locked needs the Lock mode (R200), and only DI (`di`) can cancel a
pending enable (R192, R193). -/
structure Touch (di : Bool) (s t : State) : Prop where
  boot : t.boot = s.boot
  buttons : t.buttons = s.buttons
  cfg : t.cfg = s.cfg
  timer : t.timer = s.timer
  ppu : t.ppu = s.ppu
  rom : t.cart.rom = s.cart.rom
  kind : t.cart.kind = s.cart.kind
  eramSize : t.cart.eram.size = s.cart.eram.size
  totalCycles : t.out.totalCycles = s.out.totalCycles
  trace : t.out.trace = s.out.trace
  frames : t.out.frames = s.out.frames
  overlay : t.bootActive = true → s.bootActive = true
  busInv : s.busInv → t.busInv
  lowF : s.regs.f &&& 0x0F = 0 → t.regs.f &&& 0x0F = 0
  run : t.run = s.run ∨ t.run = .halted ∨ t.run = .stopped ∨
    (t.run = .locked ∧ s.cfg.illegalOpcodeMode = .lock)
  pending : di = false → s.imePending = true → t.imePending = true

theorem Touch.trans {di : Bool} {s t u : State} (h : Touch di s t) (k : Touch di t u) : Touch di s u where
  boot := k.boot.trans h.boot
  buttons := k.buttons.trans h.buttons
  cfg := k.cfg.trans h.cfg
  timer := k.timer.trans h.timer
  ppu := k.ppu.trans h.ppu
  rom := k.rom.trans h.rom
  kind := k.kind.trans h.kind
  eramSize := k.eramSize.trans h.eramSize
  totalCycles := k.totalCycles.trans h.totalCycles
  trace := k.trace.trans h.trace
  frames := k.frames.trans h.frames
  overlay := fun hu => h.overlay (k.overlay hu)
  busInv := fun hs => k.busInv (h.busInv hs)
  lowF := fun hs => k.lowF (h.lowF hs)
  run := by
    rcases k.run with hk | hk | hk | hk
    · rw [hk]; exact h.run
    · exact .inr (.inl hk)
    · exact .inr (.inr (.inl hk))
    · rw [h.cfg] at hk; exact .inr (.inr (.inr hk))
  pending := fun hd hs => k.pending hd (h.pending hd hs)

/-- A state that differs in the CPU's own part only. -/
theorem Touch.cpu {di : Bool} {s : State} (g : Regs) (ime pend : Bool) (c : Nat)
    (hf : s.regs.f &&& 0x0F = 0 → g.f &&& 0x0F = 0)
    (hp : di = false → s.imePending = true → pend = true) :
    Touch di s { s with regs := g, ime := ime, imePending := pend, cycles := c } where
  boot := rfl
  buttons := rfl
  cfg := rfl
  timer := rfl
  ppu := rfl
  rom := rfl
  kind := rfl
  eramSize := rfl
  totalCycles := rfl
  trace := rfl
  frames := rfl
  overlay := id
  busInv := id
  lowF := hf
  run := .inl rfl
  pending := hp

section
variable {di : Bool} (s : State)

theorem Touch.refl : Touch di s s := Touch.cpu s.regs s.ime s.imePending s.cycles id fun _ h => h

theorem Touch.regs (g : Regs) (hf : s.regs.f &&& 0x0F = 0 → g.f &&& 0x0F = 0) :
    Touch di s { s with regs := g } := Touch.cpu g s.ime s.imePending s.cycles hf fun _ h => h

theorem Touch.cost (c : Nat) : Touch di s (s.cost c) :=
  Touch.cpu s.regs s.ime s.imePending c id fun _ h => h
theorem Touch.setR8 (r : R8) (v : Byte) : Touch di s (s.setR8 r v) := Touch.regs s _ (by simp)
theorem Touch.setR16 (rr : R16) (v : Word) : Touch di s (s.setR16 rr v) := Touch.regs s _ (by simp)
theorem Touch.setHl (v : Word) : Touch di s (s.setHl v) := Touch.setR16 s .hl v
theorem Touch.setStkPair (rr : R16Stk) (v : Word) : Touch di s (s.setStkPair rr v) :=
  Touch.regs s _ (by cases rr <;> first | exact id | exact fun _ => maskF_low _)
theorem Touch.setPc (v : Word) : Touch di s (s.setPc v) := Touch.regs s _ id
theorem Touch.setSp (v : Word) : Touch di s (s.setSp v) := Touch.regs s _ id
theorem Touch.flags (z n h c : Bool) : Touch di s (s.flags z n h c) :=
  Touch.regs s _ fun _ => flagByte_low z n h c
theorem Touch.setFlags (o : AluOut) : Touch di s (s.setFlags o) := Touch.flags s o.z o.n o.h o.c

theorem Touch.busWrite (a : Word) (v : Byte) : Touch di s (s.busWrite a v) where
  boot := by simp
  buttons := by simp
  cfg := by simp
  timer := by simp
  ppu := by simp
  rom := by simp
  kind := by simp
  eramSize := by simp
  totalCycles := by simp
  trace := by simp
  frames := by simp
  overlay := (s.busWrite_busFrame a v).overlay
  busInv := fun h => State.busWrite_busInv h a v
  lowF := by simp
  run := .inl (by simp)
  pending := by simp

theorem Touch.setAtHL (v : Byte) : Touch di s (s.setAtHL v) := Touch.busWrite s s.hl v

theorem Touch.push16 (v : Word) : Touch di s (s.push16 v) :=
  (((Touch.setSp s _).trans (Touch.busWrite _ _ _)).trans (Touch.setSp _ _)).trans (Touch.busWrite _ _ _)

theorem Touch.returnToTop : Touch di s s.returnToTop := (Touch.setSp s _).trans (Touch.setPc _ _)

theorem Touch.setRun (r : RunState) (h : r = .halted ∨ r = .stopped ∨ (r = .locked ∧ s.cfg.illegalOpcodeMode = .lock)) :
    Touch di s { s with run := r } where
  boot := rfl
  buttons := rfl
  cfg := rfl
  timer := rfl
  ppu := rfl
  rom := rfl
  kind := rfl
  eramSize := rfl
  totalCycles := rfl
  trace := rfl
  frames := rfl
  overlay := id
  busInv := id
  lowF := id
  run := .inr h
  pending := fun _ h => h

theorem Touch.diagnose (d : Diagnostic) : Touch di s (s.diagnose d) where
  boot := rfl
  buttons := rfl
  cfg := rfl
  timer := rfl
  ppu := rfl
  rom := rfl
  kind := rfl
  eramSize := rfl
  totalCycles := rfl
  trace := rfl
  frames := rfl
  overlay := id
  busInv := id
  lowF := id
  run := .inl rfl
  pending := fun _ h => h

end

/-- The costs of a step (R232). -/
abbrev stepCosts : List Nat := [4, 8, 12, 16, 20, 24]

/-- What `exec` answers: a next state, what it keeps, and its cost. -/
abbrev Completes (di : Bool) (s : State) (r : Host.Outcome State Fault Refusal) : Prop :=
  ∃ t, r = .next t ∧ Touch di s t ∧ t.cycles ∈ stepCosts

theorem Completes.done {di : Bool} {s t : State} (c : Nat) (h : Touch di s t) (hc : c ∈ stepCosts) :
    Completes di s (done c t) := ⟨t.cost c, rfl, h.trans (Touch.cost t c), hc⟩

section
variable {di : Bool} (s : State)

theorem ldReg_completes (r r' : R8) : Completes di s (ldReg r r' s) := .done 4 (.setR8 s _ _) (by decide)
theorem ldImm_completes (r : R8) (n : Byte) : Completes di s (ldImm r n s) := .done 8 (.setR8 s _ _) (by decide)
theorem ldFromHL_completes (r : R8) : Completes di s (ldFromHL r s) := .done 8 (.setR8 s _ _) (by decide)
theorem ldToHL_completes (r : R8) : Completes di s (ldToHL r s) := .done 8 (.setAtHL s _) (by decide)
theorem ldAFrom_completes (a : Word) (c : Nat) (hc : c ∈ stepCosts) : Completes di s (ldAFrom a c s) :=
  .done c (.setR8 s _ _) hc
theorem ldATo_completes (a : Word) (c : Nat) (hc : c ∈ stepCosts) : Completes di s (ldATo a c s) :=
  .done c (.busWrite s _ _) hc
theorem ldAToHLThen_completes (w : Word) : Completes di s (ldAToHLThen w s) :=
  .done 8 ((Touch.setAtHL s _).trans (.setHl _ _)) (by decide)
theorem ldAFromHLThen_completes (w : Word) : Completes di s (ldAFromHLThen w s) :=
  .done 8 ((Touch.setR8 s _ _).trans (.setHl _ _)) (by decide)
theorem ldPair_completes (rr : R16) (n : Word) : Completes di s (ldPair rr n s) :=
  .done 12 (.setR16 s _ _) (by decide)
theorem pushPair_completes (rr : R16Stk) : Completes di s (pushPair rr s) := .done 16 (.push16 s _) (by decide)
theorem popPair_completes (rr : R16Stk) : Completes di s (popPair rr s) :=
  .done 12 ((Touch.setSp s _).trans (.setStkPair _ _ _)) (by decide)
theorem busWrite16_completes (a : Word) (v : Word) : Completes di s (done 20 (s.busWrite16 a v)) :=
  .done 20 ((Touch.busWrite s _ _).trans (.busWrite _ _ _)) (by decide)

theorem Touch.aluWith (op : AluOp) (b : Byte) : Touch di s (s.aluWith op b) := by
  unfold State.aluWith
  split
  · exact (Touch.setR8 s _ _).trans (.setFlags _ _)
  · exact .setFlags s _

theorem aluReg_completes (op : AluOp) (r : R8) : Completes di s (aluReg op r s) := .done 4 (.aluWith s _ _) (by decide)
theorem aluMem_completes (op : AluOp) : Completes di s (aluMem op s) := .done 8 (.aluWith s _ _) (by decide)
theorem aluImm8_completes (op : AluOp) (n : Byte) : Completes di s (aluImm8 op n s) :=
  .done 8 (.aluWith s _ _) (by decide)
theorem incReg_completes (r : R8) : Completes di s (incReg r s) :=
  .done 4 ((Touch.setR8 s _ _).trans (.setFlags _ _)) (by decide)
theorem decReg_completes (r : R8) : Completes di s (decReg r s) :=
  .done 4 ((Touch.setR8 s _ _).trans (.setFlags _ _)) (by decide)
theorem setAtHLFlags_completes (c : Nat) (hc : c ∈ stepCosts) (o : AluOut) :
    Completes di s (done c ((s.setAtHL o.r).setFlags o)) := .done c ((Touch.setAtHL s _).trans (.setFlags _ _)) hc
theorem addToHL_completes (rr : R16) : Completes di s (addToHL rr s) :=
  .done 8 ((Touch.setHl s _).trans (.flags _ _ _ _ _)) (by decide)
theorem incPair_completes (rr : R16) : Completes di s (incPair rr s) := .done 8 (.setR16 s _ _) (by decide)
theorem decPair_completes (rr : R16) : Completes di s (decPair rr s) := .done 8 (.setR16 s _ _) (by decide)
theorem rotA_completes (op : RotOp) : Completes di s (rotA op s) :=
  .done 4 ((Touch.setR8 s _ _).trans (.flags _ _ _ _ _)) (by decide)
theorem rotReg_completes (op : RotOp) (r : R8) : Completes di s (rotReg op r s) :=
  .done 8 ((Touch.setR8 s _ _).trans (.setFlags _ _)) (by decide)
theorem rotMem_completes (op : RotOp) : Completes di s (rotMem op s) :=
  .done 16 ((Touch.setAtHL s _).trans (.setFlags _ _)) (by decide)
theorem bitReg_completes (b : Fin 8) (r : R8) : Completes di s (bitReg b r s) :=
  .done 8 (.flags s _ _ _ _) (by decide)
theorem bitMem_completes (b : Fin 8) : Completes di s (bitMem b s) := .done 12 (.flags s _ _ _ _) (by decide)
theorem resReg_completes (b : Fin 8) (r : R8) : Completes di s (resReg b r s) := .done 8 (.setR8 s _ _) (by decide)
theorem resMem_completes (b : Fin 8) : Completes di s (resMem b s) := .done 16 (.setAtHL s _) (by decide)
theorem setReg_completes (b : Fin 8) (r : R8) : Completes di s (setReg b r s) := .done 8 (.setR8 s _ _) (by decide)
theorem setMem_completes (b : Fin 8) : Completes di s (setMem b s) := .done 16 (.setAtHL s _) (by decide)

theorem jumpIf_completes (cc : Cond) (a : Word) : Completes di s (jumpIf cc a s) := by
  unfold jumpIf
  split
  · exact .done 16 (.setPc s _) (by decide)
  · exact .done 12 (.refl s) (by decide)
theorem jumpRelIf_completes (cc : Cond) (e : Byte) : Completes di s (jumpRelIf cc e s) := by
  unfold jumpRelIf
  split
  · exact .done 12 (.setPc s _) (by decide)
  · exact .done 8 (.refl s) (by decide)
theorem Touch.callTo (a : Word) : Touch di s (s.callTo a) := (Touch.push16 s _).trans (.setPc _ _)
theorem callCond_completes (cc : Cond) (a : Word) : Completes di s (callCond cc a s) := by
  unfold callCond
  split
  · exact .done 24 (.callTo s _) (by decide)
  · exact .done 12 (.refl s) (by decide)
theorem retCond_completes (cc : Cond) : Completes di s (retCond cc s) := by
  unfold retCond
  split
  · exact .done 20 (.returnToTop s) (by decide)
  · exact .done 8 (.refl s) (by decide)
theorem restart_completes (y : Fin 8) : Completes di s (restart y s) := .done 16 (.callTo s _) (by decide)
theorem setPc_completes (c : Nat) (hc : c ∈ stepCosts) (a : Word) : Completes di s (done c (s.setPc a)) :=
  .done c (.setPc s _) hc
theorem callTo_completes (c : Nat) (hc : c ∈ stepCosts) (a : Word) : Completes di s (done c (s.callTo a)) :=
  .done c (.callTo s _) hc
theorem returnToTop_completes : Completes di s (done 16 s.returnToTop) := .done 16 (.returnToTop s) (by decide)
theorem returnFromInterrupt_completes : Completes di s (done 16 s.returnFromInterrupt) :=
  .done 16 ((Touch.returnToTop s).trans (Touch.cpu _ true _ _ id fun _ h => h)) (by decide)

theorem unrecognized_completes (op : Byte) : Completes di s (unrecognized op s) := by
  unfold unrecognized
  cases hm : s.cfg.illegalOpcodeMode with
  | lenient => exact .done 4 (.diagnose s _) (by decide)
  | lock => exact .done 4 ((Touch.diagnose s _).trans (.setRun _ .locked (.inr (.inr ⟨rfl, hm⟩)))) (by decide)

theorem runCB_completes (op2 : Byte) : Completes di s (runCB op2 s) := by
  unfold runCB
  split
  · exact rotReg_completes s _ _
  · exact rotMem_completes s _
  · exact bitReg_completes s _ _
  · exact bitMem_completes s _
  · exact resReg_completes s _ _
  · exact resMem_completes s _
  · exact setReg_completes s _ _
  · exact setMem_completes s _

theorem prefixCB_completes : Completes di s (execPrefixCB s) := by
  obtain ⟨t, ht, hk, hc⟩ := runCB_completes (di := di) (s.setPc (s.regs.pc + 1)) (s.busRead s.regs.pc)
  exact ⟨t, ht, (Touch.setPc s _).trans hk, hc⟩

theorem nop_completes : Completes di s (execNop s) := .done 4 (.refl s) (by decide)
theorem stop_completes (n : Byte) : Completes di s (execStop n s) :=
  .done 4 (.setRun s .stopped (.inr (.inl rfl))) (by decide)
theorem halt_completes : Completes di s (execHalt s) := .done 4 (.setRun s .halted (.inl rfl)) (by decide)
theorem di_completes : Completes true s (execDi s) :=
  .done 4 (Touch.cpu s.regs false false s.cycles id fun h => absurd h (by decide)) (by decide)
theorem ei_completes : Completes di s (execEi s) :=
  .done 4 (Touch.cpu s.regs s.ime true s.cycles id fun _ _ => rfl) (by decide)
theorem daa_completes : Completes di s (execDaa s) :=
  .done 4 ((Touch.setR8 s _ _).trans (.setFlags _ _)) (by decide)
theorem cpl_completes : Completes di s (execCpl s) :=
  .done 4 ((Touch.setR8 s _ _).trans (.flags _ _ _ _ _)) (by decide)
theorem carry_completes (z n h c : Bool) : Completes di s (done 4 (s.flags z n h c)) :=
  .done 4 (.flags s _ _ _ _) (by decide)
theorem setSp_completes (v : Word) : Completes di s (done 8 (s.setSp v)) := .done 8 (.setSp s _) (by decide)
theorem setHlFlags_completes (v : Word) (z n h c : Bool) : Completes di s (done 12 ((s.setHl v).flags z n h c)) :=
  .done 12 ((Touch.setHl s _).trans (.flags _ _ _ _ _)) (by decide)
theorem setSpFlags_completes (v : Word) (z n h c : Bool) : Completes di s (done 16 ((s.setSp v).flags z n h c)) :=
  .done 16 ((Touch.setSp s _).trans (.flags _ _ _ _ _)) (by decide)

end

/-- Whether the instruction is DI. -/
def isDi : Instr → Bool
  | .di => true
  | _ => false

theorem isDi_of_ne {i : Instr} (h : i ≠ .di) : isDi i = false := by
  unfold isDi
  split
  · exact absurd rfl h
  · rfl

/-- Every instruction answers a next state, keeps what `Touch` says, and costs 4 to 24 cycles (R202, R232). -/
theorem exec_touch (i : Instr) (s : State) : Completes (isDi i) s (exec i s) :=
  match i with
  | .nop => nop_completes s
  | .ldBCN16 _ => ldPair_completes s _ _
  | .ldAtBCA => ldATo_completes s _ _ (by decide)
  | .incBC => incPair_completes s _
  | .incB => incReg_completes s _
  | .decB => decReg_completes s _
  | .ldBN8 _ => ldImm_completes s _ _
  | .rlca => rotA_completes s _
  | .ldAtA16SP _ => busWrite16_completes s _ _
  | .addHLBC => addToHL_completes s _
  | .ldAAtBC => ldAFrom_completes s _ _ (by decide)
  | .decBC => decPair_completes s _
  | .incC => incReg_completes s _
  | .decC => decReg_completes s _
  | .ldCN8 _ => ldImm_completes s _ _
  | .rrca => rotA_completes s _
  | .stop n => stop_completes s n
  | .ldDEN16 _ => ldPair_completes s _ _
  | .ldAtDEA => ldATo_completes s _ _ (by decide)
  | .incDE => incPair_completes s _
  | .incD => incReg_completes s _
  | .decD => decReg_completes s _
  | .ldDN8 _ => ldImm_completes s _ _
  | .rla => rotA_completes s _
  | .jrE8 _ => setPc_completes s 12 (by decide) _
  | .addHLDE => addToHL_completes s _
  | .ldAAtDE => ldAFrom_completes s _ _ (by decide)
  | .decDE => decPair_completes s _
  | .incE => incReg_completes s _
  | .decE => decReg_completes s _
  | .ldEN8 _ => ldImm_completes s _ _
  | .rra => rotA_completes s _
  | .jrNZE8 _ => jumpRelIf_completes s _ _
  | .ldHLN16 _ => ldPair_completes s _ _
  | .ldAtHLIA => ldAToHLThen_completes s _
  | .incHL => incPair_completes s _
  | .incH => incReg_completes s _
  | .decH => decReg_completes s _
  | .ldHN8 _ => ldImm_completes s _ _
  | .daa => daa_completes s
  | .jrZE8 _ => jumpRelIf_completes s _ _
  | .addHLHL => addToHL_completes s _
  | .ldAAtHLI => ldAFromHLThen_completes s _
  | .decHL => decPair_completes s _
  | .incL => incReg_completes s _
  | .decL => decReg_completes s _
  | .ldLN8 _ => ldImm_completes s _ _
  | .cpl => cpl_completes s
  | .jrNCE8 _ => jumpRelIf_completes s _ _
  | .ldSPN16 _ => ldPair_completes s _ _
  | .ldAtHLDA => ldAToHLThen_completes s _
  | .incSP => incPair_completes s _
  | .incAtHL => setAtHLFlags_completes s 12 (by decide) _
  | .decAtHL => setAtHLFlags_completes s 12 (by decide) _
  | .ldAtHLN8 _ => .done 12 (.setAtHL s _) (by decide)
  | .scf => carry_completes s _ _ _ _
  | .jrCE8 _ => jumpRelIf_completes s _ _
  | .addHLSP => addToHL_completes s _
  | .ldAAtHLD => ldAFromHLThen_completes s _
  | .decSP => decPair_completes s _
  | .incA => incReg_completes s _
  | .decA => decReg_completes s _
  | .ldAN8 _ => ldImm_completes s _ _
  | .ccf => carry_completes s _ _ _ _
  | .ldBB => ldReg_completes s _ _
  | .ldBC => ldReg_completes s _ _
  | .ldBD => ldReg_completes s _ _
  | .ldBE => ldReg_completes s _ _
  | .ldBH => ldReg_completes s _ _
  | .ldBL => ldReg_completes s _ _
  | .ldBAtHL => ldFromHL_completes s _
  | .ldBA => ldReg_completes s _ _
  | .ldCB => ldReg_completes s _ _
  | .ldCC => ldReg_completes s _ _
  | .ldCD => ldReg_completes s _ _
  | .ldCE => ldReg_completes s _ _
  | .ldCH => ldReg_completes s _ _
  | .ldCL => ldReg_completes s _ _
  | .ldCAtHL => ldFromHL_completes s _
  | .ldCA => ldReg_completes s _ _
  | .ldDB => ldReg_completes s _ _
  | .ldDC => ldReg_completes s _ _
  | .ldDD => ldReg_completes s _ _
  | .ldDE => ldReg_completes s _ _
  | .ldDH => ldReg_completes s _ _
  | .ldDL => ldReg_completes s _ _
  | .ldDAtHL => ldFromHL_completes s _
  | .ldDA => ldReg_completes s _ _
  | .ldEB => ldReg_completes s _ _
  | .ldEC => ldReg_completes s _ _
  | .ldED => ldReg_completes s _ _
  | .ldEE => ldReg_completes s _ _
  | .ldEH => ldReg_completes s _ _
  | .ldEL => ldReg_completes s _ _
  | .ldEAtHL => ldFromHL_completes s _
  | .ldEA => ldReg_completes s _ _
  | .ldHB => ldReg_completes s _ _
  | .ldHC => ldReg_completes s _ _
  | .ldHD => ldReg_completes s _ _
  | .ldHE => ldReg_completes s _ _
  | .ldHH => ldReg_completes s _ _
  | .ldHL => ldReg_completes s _ _
  | .ldHAtHL => ldFromHL_completes s _
  | .ldHA => ldReg_completes s _ _
  | .ldLB => ldReg_completes s _ _
  | .ldLC => ldReg_completes s _ _
  | .ldLD => ldReg_completes s _ _
  | .ldLE => ldReg_completes s _ _
  | .ldLH => ldReg_completes s _ _
  | .ldLL => ldReg_completes s _ _
  | .ldLAtHL => ldFromHL_completes s _
  | .ldLA => ldReg_completes s _ _
  | .ldAtHLB => ldToHL_completes s _
  | .ldAtHLC => ldToHL_completes s _
  | .ldAtHLD => ldToHL_completes s _
  | .ldAtHLE => ldToHL_completes s _
  | .ldAtHLH => ldToHL_completes s _
  | .ldAtHLL => ldToHL_completes s _
  | .halt => halt_completes s
  | .ldAtHLA => ldToHL_completes s _
  | .ldAB => ldReg_completes s _ _
  | .ldAC => ldReg_completes s _ _
  | .ldAD => ldReg_completes s _ _
  | .ldAE => ldReg_completes s _ _
  | .ldAH => ldReg_completes s _ _
  | .ldAL => ldReg_completes s _ _
  | .ldAAtHL => ldFromHL_completes s _
  | .ldAA => ldReg_completes s _ _
  | .addAB => aluReg_completes s _ _
  | .addAC => aluReg_completes s _ _
  | .addAD => aluReg_completes s _ _
  | .addAE => aluReg_completes s _ _
  | .addAH => aluReg_completes s _ _
  | .addAL => aluReg_completes s _ _
  | .addAAtHL => aluMem_completes s _
  | .addAA => aluReg_completes s _ _
  | .adcAB => aluReg_completes s _ _
  | .adcAC => aluReg_completes s _ _
  | .adcAD => aluReg_completes s _ _
  | .adcAE => aluReg_completes s _ _
  | .adcAH => aluReg_completes s _ _
  | .adcAL => aluReg_completes s _ _
  | .adcAAtHL => aluMem_completes s _
  | .adcAA => aluReg_completes s _ _
  | .subB => aluReg_completes s _ _
  | .subC => aluReg_completes s _ _
  | .subD => aluReg_completes s _ _
  | .subE => aluReg_completes s _ _
  | .subH => aluReg_completes s _ _
  | .subL => aluReg_completes s _ _
  | .subAtHL => aluMem_completes s _
  | .subA => aluReg_completes s _ _
  | .sbcAB => aluReg_completes s _ _
  | .sbcAC => aluReg_completes s _ _
  | .sbcAD => aluReg_completes s _ _
  | .sbcAE => aluReg_completes s _ _
  | .sbcAH => aluReg_completes s _ _
  | .sbcAL => aluReg_completes s _ _
  | .sbcAAtHL => aluMem_completes s _
  | .sbcAA => aluReg_completes s _ _
  | .andB => aluReg_completes s _ _
  | .andC => aluReg_completes s _ _
  | .andD => aluReg_completes s _ _
  | .andE => aluReg_completes s _ _
  | .andH => aluReg_completes s _ _
  | .andL => aluReg_completes s _ _
  | .andAtHL => aluMem_completes s _
  | .andA => aluReg_completes s _ _
  | .xorB => aluReg_completes s _ _
  | .xorC => aluReg_completes s _ _
  | .xorD => aluReg_completes s _ _
  | .xorE => aluReg_completes s _ _
  | .xorH => aluReg_completes s _ _
  | .xorL => aluReg_completes s _ _
  | .xorAtHL => aluMem_completes s _
  | .xorA => aluReg_completes s _ _
  | .orB => aluReg_completes s _ _
  | .orC => aluReg_completes s _ _
  | .orD => aluReg_completes s _ _
  | .orE => aluReg_completes s _ _
  | .orH => aluReg_completes s _ _
  | .orL => aluReg_completes s _ _
  | .orAtHL => aluMem_completes s _
  | .orA => aluReg_completes s _ _
  | .cpB => aluReg_completes s _ _
  | .cpC => aluReg_completes s _ _
  | .cpD => aluReg_completes s _ _
  | .cpE => aluReg_completes s _ _
  | .cpH => aluReg_completes s _ _
  | .cpL => aluReg_completes s _ _
  | .cpAtHL => aluMem_completes s _
  | .cpA => aluReg_completes s _ _
  | .retNZ => retCond_completes s _
  | .popBC => popPair_completes s _
  | .jpNZA16 _ => jumpIf_completes s _ _
  | .jpA16 _ => setPc_completes s 16 (by decide) _
  | .callNZA16 _ => callCond_completes s _ _
  | .pushBC => pushPair_completes s _
  | .addAN8 _ => aluImm8_completes s _ _
  | .rst00 => restart_completes s _
  | .retZ => retCond_completes s _
  | .ret => returnToTop_completes s
  | .jpZA16 _ => jumpIf_completes s _ _
  | .prefixCB => prefixCB_completes s
  | .callZA16 _ => callCond_completes s _ _
  | .callA16 _ => callTo_completes s 24 (by decide) _
  | .adcAN8 _ => aluImm8_completes s _ _
  | .rst08 => restart_completes s _
  | .retNC => retCond_completes s _
  | .popDE => popPair_completes s _
  | .jpNCA16 _ => jumpIf_completes s _ _
  | .illegalD3 => unrecognized_completes s _
  | .callNCA16 _ => callCond_completes s _ _
  | .pushDE => pushPair_completes s _
  | .subN8 _ => aluImm8_completes s _ _
  | .rst10 => restart_completes s _
  | .retC => retCond_completes s _
  | .reti => returnFromInterrupt_completes s
  | .jpCA16 _ => jumpIf_completes s _ _
  | .illegalDB => unrecognized_completes s _
  | .callCA16 _ => callCond_completes s _ _
  | .illegalDD => unrecognized_completes s _
  | .sbcAN8 _ => aluImm8_completes s _ _
  | .rst18 => restart_completes s _
  | .ldhAtA8A _ => ldATo_completes s _ _ (by decide)
  | .popHL => popPair_completes s _
  | .ldAtCA => ldATo_completes s _ _ (by decide)
  | .illegalE3 => unrecognized_completes s _
  | .illegalE4 => unrecognized_completes s _
  | .pushHL => pushPair_completes s _
  | .andN8 _ => aluImm8_completes s _ _
  | .rst20 => restart_completes s _
  | .addSPE8 _ => setSpFlags_completes s _ _ _ _ _
  | .jpHL => setPc_completes s 4 (by decide) _
  | .ldAtA16A _ => ldATo_completes s _ _ (by decide)
  | .illegalEB => unrecognized_completes s _
  | .illegalEC => unrecognized_completes s _
  | .illegalED => unrecognized_completes s _
  | .xorN8 _ => aluImm8_completes s _ _
  | .rst28 => restart_completes s _
  | .ldhAAtA8 _ => ldAFrom_completes s _ _ (by decide)
  | .popAF => popPair_completes s _
  | .ldAAtC => ldAFrom_completes s _ _ (by decide)
  | .di => di_completes s
  | .illegalF4 => unrecognized_completes s _
  | .pushAF => pushPair_completes s _
  | .orN8 _ => aluImm8_completes s _ _
  | .rst30 => restart_completes s _
  | .ldHLSPE8 _ => setHlFlags_completes s _ _ _ _ _
  | .ldSPHL => setSp_completes s _
  | .ldAAtA16 _ => ldAFrom_completes s _ _ (by decide)
  | .ei => ei_completes s
  | .illegalFC => unrecognized_completes s _
  | .illegalFD => unrecognized_completes s _
  | .cpN8 _ => aluImm8_completes s _ _
  | .rst38 => restart_completes s _
  | .rlcB => rotReg_completes s _ _
  | .rlcC => rotReg_completes s _ _
  | .rlcD => rotReg_completes s _ _
  | .rlcE => rotReg_completes s _ _
  | .rlcH => rotReg_completes s _ _
  | .rlcL => rotReg_completes s _ _
  | .rlcAtHL => rotMem_completes s _
  | .rlcA => rotReg_completes s _ _
  | .rrcB => rotReg_completes s _ _
  | .rrcC => rotReg_completes s _ _
  | .rrcD => rotReg_completes s _ _
  | .rrcE => rotReg_completes s _ _
  | .rrcH => rotReg_completes s _ _
  | .rrcL => rotReg_completes s _ _
  | .rrcAtHL => rotMem_completes s _
  | .rrcA => rotReg_completes s _ _
  | .rlB => rotReg_completes s _ _
  | .rlC => rotReg_completes s _ _
  | .rlD => rotReg_completes s _ _
  | .rlE => rotReg_completes s _ _
  | .rlH => rotReg_completes s _ _
  | .rlL => rotReg_completes s _ _
  | .rlAtHL => rotMem_completes s _
  | .rlA => rotReg_completes s _ _
  | .rrB => rotReg_completes s _ _
  | .rrC => rotReg_completes s _ _
  | .rrD => rotReg_completes s _ _
  | .rrE => rotReg_completes s _ _
  | .rrH => rotReg_completes s _ _
  | .rrL => rotReg_completes s _ _
  | .rrAtHL => rotMem_completes s _
  | .rrA => rotReg_completes s _ _
  | .slaB => rotReg_completes s _ _
  | .slaC => rotReg_completes s _ _
  | .slaD => rotReg_completes s _ _
  | .slaE => rotReg_completes s _ _
  | .slaH => rotReg_completes s _ _
  | .slaL => rotReg_completes s _ _
  | .slaAtHL => rotMem_completes s _
  | .slaA => rotReg_completes s _ _
  | .sraB => rotReg_completes s _ _
  | .sraC => rotReg_completes s _ _
  | .sraD => rotReg_completes s _ _
  | .sraE => rotReg_completes s _ _
  | .sraH => rotReg_completes s _ _
  | .sraL => rotReg_completes s _ _
  | .sraAtHL => rotMem_completes s _
  | .sraA => rotReg_completes s _ _
  | .swapB => rotReg_completes s _ _
  | .swapC => rotReg_completes s _ _
  | .swapD => rotReg_completes s _ _
  | .swapE => rotReg_completes s _ _
  | .swapH => rotReg_completes s _ _
  | .swapL => rotReg_completes s _ _
  | .swapAtHL => rotMem_completes s _
  | .swapA => rotReg_completes s _ _
  | .srlB => rotReg_completes s _ _
  | .srlC => rotReg_completes s _ _
  | .srlD => rotReg_completes s _ _
  | .srlE => rotReg_completes s _ _
  | .srlH => rotReg_completes s _ _
  | .srlL => rotReg_completes s _ _
  | .srlAtHL => rotMem_completes s _
  | .srlA => rotReg_completes s _ _
  | .bit0B => bitReg_completes s _ _
  | .bit0C => bitReg_completes s _ _
  | .bit0D => bitReg_completes s _ _
  | .bit0E => bitReg_completes s _ _
  | .bit0H => bitReg_completes s _ _
  | .bit0L => bitReg_completes s _ _
  | .bit0AtHL => bitMem_completes s _
  | .bit0A => bitReg_completes s _ _
  | .bit1B => bitReg_completes s _ _
  | .bit1C => bitReg_completes s _ _
  | .bit1D => bitReg_completes s _ _
  | .bit1E => bitReg_completes s _ _
  | .bit1H => bitReg_completes s _ _
  | .bit1L => bitReg_completes s _ _
  | .bit1AtHL => bitMem_completes s _
  | .bit1A => bitReg_completes s _ _
  | .bit2B => bitReg_completes s _ _
  | .bit2C => bitReg_completes s _ _
  | .bit2D => bitReg_completes s _ _
  | .bit2E => bitReg_completes s _ _
  | .bit2H => bitReg_completes s _ _
  | .bit2L => bitReg_completes s _ _
  | .bit2AtHL => bitMem_completes s _
  | .bit2A => bitReg_completes s _ _
  | .bit3B => bitReg_completes s _ _
  | .bit3C => bitReg_completes s _ _
  | .bit3D => bitReg_completes s _ _
  | .bit3E => bitReg_completes s _ _
  | .bit3H => bitReg_completes s _ _
  | .bit3L => bitReg_completes s _ _
  | .bit3AtHL => bitMem_completes s _
  | .bit3A => bitReg_completes s _ _
  | .bit4B => bitReg_completes s _ _
  | .bit4C => bitReg_completes s _ _
  | .bit4D => bitReg_completes s _ _
  | .bit4E => bitReg_completes s _ _
  | .bit4H => bitReg_completes s _ _
  | .bit4L => bitReg_completes s _ _
  | .bit4AtHL => bitMem_completes s _
  | .bit4A => bitReg_completes s _ _
  | .bit5B => bitReg_completes s _ _
  | .bit5C => bitReg_completes s _ _
  | .bit5D => bitReg_completes s _ _
  | .bit5E => bitReg_completes s _ _
  | .bit5H => bitReg_completes s _ _
  | .bit5L => bitReg_completes s _ _
  | .bit5AtHL => bitMem_completes s _
  | .bit5A => bitReg_completes s _ _
  | .bit6B => bitReg_completes s _ _
  | .bit6C => bitReg_completes s _ _
  | .bit6D => bitReg_completes s _ _
  | .bit6E => bitReg_completes s _ _
  | .bit6H => bitReg_completes s _ _
  | .bit6L => bitReg_completes s _ _
  | .bit6AtHL => bitMem_completes s _
  | .bit6A => bitReg_completes s _ _
  | .bit7B => bitReg_completes s _ _
  | .bit7C => bitReg_completes s _ _
  | .bit7D => bitReg_completes s _ _
  | .bit7E => bitReg_completes s _ _
  | .bit7H => bitReg_completes s _ _
  | .bit7L => bitReg_completes s _ _
  | .bit7AtHL => bitMem_completes s _
  | .bit7A => bitReg_completes s _ _
  | .res0B => resReg_completes s _ _
  | .res0C => resReg_completes s _ _
  | .res0D => resReg_completes s _ _
  | .res0E => resReg_completes s _ _
  | .res0H => resReg_completes s _ _
  | .res0L => resReg_completes s _ _
  | .res0AtHL => resMem_completes s _
  | .res0A => resReg_completes s _ _
  | .res1B => resReg_completes s _ _
  | .res1C => resReg_completes s _ _
  | .res1D => resReg_completes s _ _
  | .res1E => resReg_completes s _ _
  | .res1H => resReg_completes s _ _
  | .res1L => resReg_completes s _ _
  | .res1AtHL => resMem_completes s _
  | .res1A => resReg_completes s _ _
  | .res2B => resReg_completes s _ _
  | .res2C => resReg_completes s _ _
  | .res2D => resReg_completes s _ _
  | .res2E => resReg_completes s _ _
  | .res2H => resReg_completes s _ _
  | .res2L => resReg_completes s _ _
  | .res2AtHL => resMem_completes s _
  | .res2A => resReg_completes s _ _
  | .res3B => resReg_completes s _ _
  | .res3C => resReg_completes s _ _
  | .res3D => resReg_completes s _ _
  | .res3E => resReg_completes s _ _
  | .res3H => resReg_completes s _ _
  | .res3L => resReg_completes s _ _
  | .res3AtHL => resMem_completes s _
  | .res3A => resReg_completes s _ _
  | .res4B => resReg_completes s _ _
  | .res4C => resReg_completes s _ _
  | .res4D => resReg_completes s _ _
  | .res4E => resReg_completes s _ _
  | .res4H => resReg_completes s _ _
  | .res4L => resReg_completes s _ _
  | .res4AtHL => resMem_completes s _
  | .res4A => resReg_completes s _ _
  | .res5B => resReg_completes s _ _
  | .res5C => resReg_completes s _ _
  | .res5D => resReg_completes s _ _
  | .res5E => resReg_completes s _ _
  | .res5H => resReg_completes s _ _
  | .res5L => resReg_completes s _ _
  | .res5AtHL => resMem_completes s _
  | .res5A => resReg_completes s _ _
  | .res6B => resReg_completes s _ _
  | .res6C => resReg_completes s _ _
  | .res6D => resReg_completes s _ _
  | .res6E => resReg_completes s _ _
  | .res6H => resReg_completes s _ _
  | .res6L => resReg_completes s _ _
  | .res6AtHL => resMem_completes s _
  | .res6A => resReg_completes s _ _
  | .res7B => resReg_completes s _ _
  | .res7C => resReg_completes s _ _
  | .res7D => resReg_completes s _ _
  | .res7E => resReg_completes s _ _
  | .res7H => resReg_completes s _ _
  | .res7L => resReg_completes s _ _
  | .res7AtHL => resMem_completes s _
  | .res7A => resReg_completes s _ _
  | .set0B => setReg_completes s _ _
  | .set0C => setReg_completes s _ _
  | .set0D => setReg_completes s _ _
  | .set0E => setReg_completes s _ _
  | .set0H => setReg_completes s _ _
  | .set0L => setReg_completes s _ _
  | .set0AtHL => setMem_completes s _
  | .set0A => setReg_completes s _ _
  | .set1B => setReg_completes s _ _
  | .set1C => setReg_completes s _ _
  | .set1D => setReg_completes s _ _
  | .set1E => setReg_completes s _ _
  | .set1H => setReg_completes s _ _
  | .set1L => setReg_completes s _ _
  | .set1AtHL => setMem_completes s _
  | .set1A => setReg_completes s _ _
  | .set2B => setReg_completes s _ _
  | .set2C => setReg_completes s _ _
  | .set2D => setReg_completes s _ _
  | .set2E => setReg_completes s _ _
  | .set2H => setReg_completes s _ _
  | .set2L => setReg_completes s _ _
  | .set2AtHL => setMem_completes s _
  | .set2A => setReg_completes s _ _
  | .set3B => setReg_completes s _ _
  | .set3C => setReg_completes s _ _
  | .set3D => setReg_completes s _ _
  | .set3E => setReg_completes s _ _
  | .set3H => setReg_completes s _ _
  | .set3L => setReg_completes s _ _
  | .set3AtHL => setMem_completes s _
  | .set3A => setReg_completes s _ _
  | .set4B => setReg_completes s _ _
  | .set4C => setReg_completes s _ _
  | .set4D => setReg_completes s _ _
  | .set4E => setReg_completes s _ _
  | .set4H => setReg_completes s _ _
  | .set4L => setReg_completes s _ _
  | .set4AtHL => setMem_completes s _
  | .set4A => setReg_completes s _ _
  | .set5B => setReg_completes s _ _
  | .set5C => setReg_completes s _ _
  | .set5D => setReg_completes s _ _
  | .set5E => setReg_completes s _ _
  | .set5H => setReg_completes s _ _
  | .set5L => setReg_completes s _ _
  | .set5AtHL => setMem_completes s _
  | .set5A => setReg_completes s _ _
  | .set6B => setReg_completes s _ _
  | .set6C => setReg_completes s _ _
  | .set6D => setReg_completes s _ _
  | .set6E => setReg_completes s _ _
  | .set6H => setReg_completes s _ _
  | .set6L => setReg_completes s _ _
  | .set6AtHL => setMem_completes s _
  | .set6A => setReg_completes s _ _
  | .set7B => setReg_completes s _ _
  | .set7C => setReg_completes s _ _
  | .set7D => setReg_completes s _ _
  | .set7E => setReg_completes s _ _
  | .set7H => setReg_completes s _ _
  | .set7L => setReg_completes s _ _
  | .set7AtHL => setMem_completes s _
  | .set7A => setReg_completes s _ _

/-- `exec_touch` for a known answer. -/
theorem touch_of_exec {i : Instr} {s t : State} (h : exec i s = .next t) :
    Touch (isDi i) s t ∧ t.cycles ∈ stepCosts := by
  obtain ⟨u, hu, hk⟩ := exec_touch i s
  rw [h] at hu
  cases hu
  exact hk

end Sys2Proof.Machine
end

