-- ==== Sys2Proof/Laws/PerInstr.lean ====
section
/-! SUPPORT. The statements made per instruction: `RoundTrip`, one lemma per constructor. -/

namespace Sys2Proof.Laws

open Sys2Proof.Machine (concat loByte hiByte)

/-- Decoding the encoding of a well-formed instruction gives it back, whatever bytes follow (R80, R81). -/
def RoundTrip.Statement (i : Instr) : Prop :=
  i.wellFormed = true → ∀ rest : List Byte, decode (encode i ++ rest) = .ok i

/-- A form of one byte. -/
theorem RoundTrip.byte1 (op : Byte) {i : Instr} (he : encode i = [op]) (hd : ∀ b1 b2, decode3 op b1 b2 = i)
    (hl : lengthOf op = 1) (hcb : op ≠ 0xCB) : RoundTrip.Statement i := by
  intro _ rest
  have hcb : op ≠ 203#8 := hcb
  simp [he, decode, hl, hcb, hd]

/-- A form of two bytes. -/
theorem RoundTrip.byte2 (op n : Byte) {i : Instr} (he : encode i = [op, n]) (hd : ∀ b2, decode3 op n b2 = i)
    (hl : lengthOf op = 2) : RoundTrip.Statement i := by
  intro _ rest
  simp [he, decode, hl, hd]

/-- A form of three bytes. -/
theorem RoundTrip.byte3 (op : Byte) (n : Word) {i : Instr} (he : encode i = [op, loByte n, hiByte n])
    (hd : decode3 op (loByte n) (hiByte n) = i) (hl : lengthOf op = 3) : RoundTrip.Statement i := by
  intro _ rest
  simp [he, decode, hl, hd]

theorem RoundTrip.nop : RoundTrip.Statement .nop :=
  RoundTrip.byte1 0x00 rfl (fun _ _ => rfl) rfl (by decide)
theorem RoundTrip.ldBCN16 (n : Word) : RoundTrip.Statement (.ldBCN16 n) :=
  RoundTrip.byte3 0x01 n rfl (congrArg Instr.ldBCN16 (Machine.concat_hiByte_loByte n)) rfl
theorem RoundTrip.ldAtBCA : RoundTrip.Statement .ldAtBCA :=
  RoundTrip.byte1 0x02 rfl (fun _ _ => rfl) rfl (by decide)
theorem RoundTrip.incBC : RoundTrip.Statement .incBC :=
  RoundTrip.byte1 0x03 rfl (fun _ _ => rfl) rfl (by decide)
theorem RoundTrip.incB : RoundTrip.Statement .incB :=
  RoundTrip.byte1 0x04 rfl (fun _ _ => rfl) rfl (by decide)
theorem RoundTrip.decB : RoundTrip.Statement .decB :=
  RoundTrip.byte1 0x05 rfl (fun _ _ => rfl) rfl (by decide)
theorem RoundTrip.ldBN8 (n : Byte) : RoundTrip.Statement (.ldBN8 n) :=
  RoundTrip.byte2 0x06 n rfl (fun _ => rfl) rfl
theorem RoundTrip.rlca : RoundTrip.Statement .rlca :=
  RoundTrip.byte1 0x07 rfl (fun _ _ => rfl) rfl (by decide)
theorem RoundTrip.ldAtA16SP (a : Word) : RoundTrip.Statement (.ldAtA16SP a) :=
  RoundTrip.byte3 0x08 a rfl (congrArg Instr.ldAtA16SP (Machine.concat_hiByte_loByte a)) rfl
theorem RoundTrip.addHLBC : RoundTrip.Statement .addHLBC :=
  RoundTrip.byte1 0x09 rfl (fun _ _ => rfl) rfl (by decide)
theorem RoundTrip.ldAAtBC : RoundTrip.Statement .ldAAtBC :=
  RoundTrip.byte1 0x0A rfl (fun _ _ => rfl) rfl (by decide)
theorem RoundTrip.decBC : RoundTrip.Statement .decBC :=
  RoundTrip.byte1 0x0B rfl (fun _ _ => rfl) rfl (by decide)
theorem RoundTrip.incC : RoundTrip.Statement .incC :=
  RoundTrip.byte1 0x0C rfl (fun _ _ => rfl) rfl (by decide)
theorem RoundTrip.decC : RoundTrip.Statement .decC :=
  RoundTrip.byte1 0x0D rfl (fun _ _ => rfl) rfl (by decide)
theorem RoundTrip.ldCN8 (n : Byte) : RoundTrip.Statement (.ldCN8 n) :=
  RoundTrip.byte2 0x0E n rfl (fun _ => rfl) rfl
theorem RoundTrip.rrca : RoundTrip.Statement .rrca :=
  RoundTrip.byte1 0x0F rfl (fun _ _ => rfl) rfl (by decide)
theorem RoundTrip.stop (n : Byte) : RoundTrip.Statement (.stop n) :=
  RoundTrip.byte2 0x10 n rfl (fun _ => rfl) rfl
theorem RoundTrip.ldDEN16 (n : Word) : RoundTrip.Statement (.ldDEN16 n) :=
  RoundTrip.byte3 0x11 n rfl (congrArg Instr.ldDEN16 (Machine.concat_hiByte_loByte n)) rfl
theorem RoundTrip.ldAtDEA : RoundTrip.Statement .ldAtDEA :=
  RoundTrip.byte1 0x12 rfl (fun _ _ => rfl) rfl (by decide)
theorem RoundTrip.incDE : RoundTrip.Statement .incDE :=
  RoundTrip.byte1 0x13 rfl (fun _ _ => rfl) rfl (by decide)
theorem RoundTrip.incD : RoundTrip.Statement .incD :=
  RoundTrip.byte1 0x14 rfl (fun _ _ => rfl) rfl (by decide)
theorem RoundTrip.decD : RoundTrip.Statement .decD :=
  RoundTrip.byte1 0x15 rfl (fun _ _ => rfl) rfl (by decide)
theorem RoundTrip.ldDN8 (n : Byte) : RoundTrip.Statement (.ldDN8 n) :=
  RoundTrip.byte2 0x16 n rfl (fun _ => rfl) rfl
theorem RoundTrip.rla : RoundTrip.Statement .rla :=
  RoundTrip.byte1 0x17 rfl (fun _ _ => rfl) rfl (by decide)
theorem RoundTrip.jrE8 (e : Byte) : RoundTrip.Statement (.jrE8 e) :=
  RoundTrip.byte2 0x18 e rfl (fun _ => rfl) rfl
theorem RoundTrip.addHLDE : RoundTrip.Statement .addHLDE :=
  RoundTrip.byte1 0x19 rfl (fun _ _ => rfl) rfl (by decide)
theorem RoundTrip.ldAAtDE : RoundTrip.Statement .ldAAtDE :=
  RoundTrip.byte1 0x1A rfl (fun _ _ => rfl) rfl (by decide)
theorem RoundTrip.decDE : RoundTrip.Statement .decDE :=
  RoundTrip.byte1 0x1B rfl (fun _ _ => rfl) rfl (by decide)
theorem RoundTrip.incE : RoundTrip.Statement .incE :=
  RoundTrip.byte1 0x1C rfl (fun _ _ => rfl) rfl (by decide)
theorem RoundTrip.decE : RoundTrip.Statement .decE :=
  RoundTrip.byte1 0x1D rfl (fun _ _ => rfl) rfl (by decide)
theorem RoundTrip.ldEN8 (n : Byte) : RoundTrip.Statement (.ldEN8 n) :=
  RoundTrip.byte2 0x1E n rfl (fun _ => rfl) rfl
theorem RoundTrip.rra : RoundTrip.Statement .rra :=
  RoundTrip.byte1 0x1F rfl (fun _ _ => rfl) rfl (by decide)
theorem RoundTrip.jrNZE8 (e : Byte) : RoundTrip.Statement (.jrNZE8 e) :=
  RoundTrip.byte2 0x20 e rfl (fun _ => rfl) rfl
theorem RoundTrip.ldHLN16 (n : Word) : RoundTrip.Statement (.ldHLN16 n) :=
  RoundTrip.byte3 0x21 n rfl (congrArg Instr.ldHLN16 (Machine.concat_hiByte_loByte n)) rfl
theorem RoundTrip.ldAtHLIA : RoundTrip.Statement .ldAtHLIA :=
  RoundTrip.byte1 0x22 rfl (fun _ _ => rfl) rfl (by decide)
theorem RoundTrip.incHL : RoundTrip.Statement .incHL :=
  RoundTrip.byte1 0x23 rfl (fun _ _ => rfl) rfl (by decide)
theorem RoundTrip.incH : RoundTrip.Statement .incH :=
  RoundTrip.byte1 0x24 rfl (fun _ _ => rfl) rfl (by decide)
theorem RoundTrip.decH : RoundTrip.Statement .decH :=
  RoundTrip.byte1 0x25 rfl (fun _ _ => rfl) rfl (by decide)
theorem RoundTrip.ldHN8 (n : Byte) : RoundTrip.Statement (.ldHN8 n) :=
  RoundTrip.byte2 0x26 n rfl (fun _ => rfl) rfl
theorem RoundTrip.daa : RoundTrip.Statement .daa :=
  RoundTrip.byte1 0x27 rfl (fun _ _ => rfl) rfl (by decide)
theorem RoundTrip.jrZE8 (e : Byte) : RoundTrip.Statement (.jrZE8 e) :=
  RoundTrip.byte2 0x28 e rfl (fun _ => rfl) rfl
theorem RoundTrip.addHLHL : RoundTrip.Statement .addHLHL :=
  RoundTrip.byte1 0x29 rfl (fun _ _ => rfl) rfl (by decide)
theorem RoundTrip.ldAAtHLI : RoundTrip.Statement .ldAAtHLI :=
  RoundTrip.byte1 0x2A rfl (fun _ _ => rfl) rfl (by decide)
theorem RoundTrip.decHL : RoundTrip.Statement .decHL :=
  RoundTrip.byte1 0x2B rfl (fun _ _ => rfl) rfl (by decide)
theorem RoundTrip.incL : RoundTrip.Statement .incL :=
  RoundTrip.byte1 0x2C rfl (fun _ _ => rfl) rfl (by decide)
theorem RoundTrip.decL : RoundTrip.Statement .decL :=
  RoundTrip.byte1 0x2D rfl (fun _ _ => rfl) rfl (by decide)
theorem RoundTrip.ldLN8 (n : Byte) : RoundTrip.Statement (.ldLN8 n) :=
  RoundTrip.byte2 0x2E n rfl (fun _ => rfl) rfl
theorem RoundTrip.cpl : RoundTrip.Statement .cpl :=
  RoundTrip.byte1 0x2F rfl (fun _ _ => rfl) rfl (by decide)
theorem RoundTrip.jrNCE8 (e : Byte) : RoundTrip.Statement (.jrNCE8 e) :=
  RoundTrip.byte2 0x30 e rfl (fun _ => rfl) rfl
theorem RoundTrip.ldSPN16 (n : Word) : RoundTrip.Statement (.ldSPN16 n) :=
  RoundTrip.byte3 0x31 n rfl (congrArg Instr.ldSPN16 (Machine.concat_hiByte_loByte n)) rfl
theorem RoundTrip.ldAtHLDA : RoundTrip.Statement .ldAtHLDA :=
  RoundTrip.byte1 0x32 rfl (fun _ _ => rfl) rfl (by decide)
theorem RoundTrip.incSP : RoundTrip.Statement .incSP :=
  RoundTrip.byte1 0x33 rfl (fun _ _ => rfl) rfl (by decide)
theorem RoundTrip.incAtHL : RoundTrip.Statement .incAtHL :=
  RoundTrip.byte1 0x34 rfl (fun _ _ => rfl) rfl (by decide)
theorem RoundTrip.decAtHL : RoundTrip.Statement .decAtHL :=
  RoundTrip.byte1 0x35 rfl (fun _ _ => rfl) rfl (by decide)
theorem RoundTrip.ldAtHLN8 (n : Byte) : RoundTrip.Statement (.ldAtHLN8 n) :=
  RoundTrip.byte2 0x36 n rfl (fun _ => rfl) rfl
theorem RoundTrip.scf : RoundTrip.Statement .scf :=
  RoundTrip.byte1 0x37 rfl (fun _ _ => rfl) rfl (by decide)
theorem RoundTrip.jrCE8 (e : Byte) : RoundTrip.Statement (.jrCE8 e) :=
  RoundTrip.byte2 0x38 e rfl (fun _ => rfl) rfl
theorem RoundTrip.addHLSP : RoundTrip.Statement .addHLSP :=
  RoundTrip.byte1 0x39 rfl (fun _ _ => rfl) rfl (by decide)
theorem RoundTrip.ldAAtHLD : RoundTrip.Statement .ldAAtHLD :=
  RoundTrip.byte1 0x3A rfl (fun _ _ => rfl) rfl (by decide)
theorem RoundTrip.decSP : RoundTrip.Statement .decSP :=
  RoundTrip.byte1 0x3B rfl (fun _ _ => rfl) rfl (by decide)
theorem RoundTrip.incA : RoundTrip.Statement .incA :=
  RoundTrip.byte1 0x3C rfl (fun _ _ => rfl) rfl (by decide)
theorem RoundTrip.decA : RoundTrip.Statement .decA :=
  RoundTrip.byte1 0x3D rfl (fun _ _ => rfl) rfl (by decide)
theorem RoundTrip.ldAN8 (n : Byte) : RoundTrip.Statement (.ldAN8 n) :=
  RoundTrip.byte2 0x3E n rfl (fun _ => rfl) rfl
theorem RoundTrip.ccf : RoundTrip.Statement .ccf :=
  RoundTrip.byte1 0x3F rfl (fun _ _ => rfl) rfl (by decide)
theorem RoundTrip.ldBB : RoundTrip.Statement .ldBB :=
  RoundTrip.byte1 0x40 rfl (fun _ _ => rfl) rfl (by decide)
theorem RoundTrip.ldBC : RoundTrip.Statement .ldBC :=
  RoundTrip.byte1 0x41 rfl (fun _ _ => rfl) rfl (by decide)
theorem RoundTrip.ldBD : RoundTrip.Statement .ldBD :=
  RoundTrip.byte1 0x42 rfl (fun _ _ => rfl) rfl (by decide)
theorem RoundTrip.ldBE : RoundTrip.Statement .ldBE :=
  RoundTrip.byte1 0x43 rfl (fun _ _ => rfl) rfl (by decide)
theorem RoundTrip.ldBH : RoundTrip.Statement .ldBH :=
  RoundTrip.byte1 0x44 rfl (fun _ _ => rfl) rfl (by decide)
theorem RoundTrip.ldBL : RoundTrip.Statement .ldBL :=
  RoundTrip.byte1 0x45 rfl (fun _ _ => rfl) rfl (by decide)
theorem RoundTrip.ldBAtHL : RoundTrip.Statement .ldBAtHL :=
  RoundTrip.byte1 0x46 rfl (fun _ _ => rfl) rfl (by decide)
theorem RoundTrip.ldBA : RoundTrip.Statement .ldBA :=
  RoundTrip.byte1 0x47 rfl (fun _ _ => rfl) rfl (by decide)
theorem RoundTrip.ldCB : RoundTrip.Statement .ldCB :=
  RoundTrip.byte1 0x48 rfl (fun _ _ => rfl) rfl (by decide)
theorem RoundTrip.ldCC : RoundTrip.Statement .ldCC :=
  RoundTrip.byte1 0x49 rfl (fun _ _ => rfl) rfl (by decide)
theorem RoundTrip.ldCD : RoundTrip.Statement .ldCD :=
  RoundTrip.byte1 0x4A rfl (fun _ _ => rfl) rfl (by decide)
theorem RoundTrip.ldCE : RoundTrip.Statement .ldCE :=
  RoundTrip.byte1 0x4B rfl (fun _ _ => rfl) rfl (by decide)
theorem RoundTrip.ldCH : RoundTrip.Statement .ldCH :=
  RoundTrip.byte1 0x4C rfl (fun _ _ => rfl) rfl (by decide)
theorem RoundTrip.ldCL : RoundTrip.Statement .ldCL :=
  RoundTrip.byte1 0x4D rfl (fun _ _ => rfl) rfl (by decide)
theorem RoundTrip.ldCAtHL : RoundTrip.Statement .ldCAtHL :=
  RoundTrip.byte1 0x4E rfl (fun _ _ => rfl) rfl (by decide)
theorem RoundTrip.ldCA : RoundTrip.Statement .ldCA :=
  RoundTrip.byte1 0x4F rfl (fun _ _ => rfl) rfl (by decide)
theorem RoundTrip.ldDB : RoundTrip.Statement .ldDB :=
  RoundTrip.byte1 0x50 rfl (fun _ _ => rfl) rfl (by decide)
theorem RoundTrip.ldDC : RoundTrip.Statement .ldDC :=
  RoundTrip.byte1 0x51 rfl (fun _ _ => rfl) rfl (by decide)
theorem RoundTrip.ldDD : RoundTrip.Statement .ldDD :=
  RoundTrip.byte1 0x52 rfl (fun _ _ => rfl) rfl (by decide)
theorem RoundTrip.ldDE : RoundTrip.Statement .ldDE :=
  RoundTrip.byte1 0x53 rfl (fun _ _ => rfl) rfl (by decide)
theorem RoundTrip.ldDH : RoundTrip.Statement .ldDH :=
  RoundTrip.byte1 0x54 rfl (fun _ _ => rfl) rfl (by decide)
theorem RoundTrip.ldDL : RoundTrip.Statement .ldDL :=
  RoundTrip.byte1 0x55 rfl (fun _ _ => rfl) rfl (by decide)
theorem RoundTrip.ldDAtHL : RoundTrip.Statement .ldDAtHL :=
  RoundTrip.byte1 0x56 rfl (fun _ _ => rfl) rfl (by decide)
theorem RoundTrip.ldDA : RoundTrip.Statement .ldDA :=
  RoundTrip.byte1 0x57 rfl (fun _ _ => rfl) rfl (by decide)
theorem RoundTrip.ldEB : RoundTrip.Statement .ldEB :=
  RoundTrip.byte1 0x58 rfl (fun _ _ => rfl) rfl (by decide)
theorem RoundTrip.ldEC : RoundTrip.Statement .ldEC :=
  RoundTrip.byte1 0x59 rfl (fun _ _ => rfl) rfl (by decide)
theorem RoundTrip.ldED : RoundTrip.Statement .ldED :=
  RoundTrip.byte1 0x5A rfl (fun _ _ => rfl) rfl (by decide)
theorem RoundTrip.ldEE : RoundTrip.Statement .ldEE :=
  RoundTrip.byte1 0x5B rfl (fun _ _ => rfl) rfl (by decide)
theorem RoundTrip.ldEH : RoundTrip.Statement .ldEH :=
  RoundTrip.byte1 0x5C rfl (fun _ _ => rfl) rfl (by decide)
theorem RoundTrip.ldEL : RoundTrip.Statement .ldEL :=
  RoundTrip.byte1 0x5D rfl (fun _ _ => rfl) rfl (by decide)
theorem RoundTrip.ldEAtHL : RoundTrip.Statement .ldEAtHL :=
  RoundTrip.byte1 0x5E rfl (fun _ _ => rfl) rfl (by decide)
theorem RoundTrip.ldEA : RoundTrip.Statement .ldEA :=
  RoundTrip.byte1 0x5F rfl (fun _ _ => rfl) rfl (by decide)
theorem RoundTrip.ldHB : RoundTrip.Statement .ldHB :=
  RoundTrip.byte1 0x60 rfl (fun _ _ => rfl) rfl (by decide)
theorem RoundTrip.ldHC : RoundTrip.Statement .ldHC :=
  RoundTrip.byte1 0x61 rfl (fun _ _ => rfl) rfl (by decide)
theorem RoundTrip.ldHD : RoundTrip.Statement .ldHD :=
  RoundTrip.byte1 0x62 rfl (fun _ _ => rfl) rfl (by decide)
theorem RoundTrip.ldHE : RoundTrip.Statement .ldHE :=
  RoundTrip.byte1 0x63 rfl (fun _ _ => rfl) rfl (by decide)
theorem RoundTrip.ldHH : RoundTrip.Statement .ldHH :=
  RoundTrip.byte1 0x64 rfl (fun _ _ => rfl) rfl (by decide)
theorem RoundTrip.ldHL : RoundTrip.Statement .ldHL :=
  RoundTrip.byte1 0x65 rfl (fun _ _ => rfl) rfl (by decide)
theorem RoundTrip.ldHAtHL : RoundTrip.Statement .ldHAtHL :=
  RoundTrip.byte1 0x66 rfl (fun _ _ => rfl) rfl (by decide)
theorem RoundTrip.ldHA : RoundTrip.Statement .ldHA :=
  RoundTrip.byte1 0x67 rfl (fun _ _ => rfl) rfl (by decide)
theorem RoundTrip.ldLB : RoundTrip.Statement .ldLB :=
  RoundTrip.byte1 0x68 rfl (fun _ _ => rfl) rfl (by decide)
theorem RoundTrip.ldLC : RoundTrip.Statement .ldLC :=
  RoundTrip.byte1 0x69 rfl (fun _ _ => rfl) rfl (by decide)
theorem RoundTrip.ldLD : RoundTrip.Statement .ldLD :=
  RoundTrip.byte1 0x6A rfl (fun _ _ => rfl) rfl (by decide)
theorem RoundTrip.ldLE : RoundTrip.Statement .ldLE :=
  RoundTrip.byte1 0x6B rfl (fun _ _ => rfl) rfl (by decide)
theorem RoundTrip.ldLH : RoundTrip.Statement .ldLH :=
  RoundTrip.byte1 0x6C rfl (fun _ _ => rfl) rfl (by decide)
theorem RoundTrip.ldLL : RoundTrip.Statement .ldLL :=
  RoundTrip.byte1 0x6D rfl (fun _ _ => rfl) rfl (by decide)
theorem RoundTrip.ldLAtHL : RoundTrip.Statement .ldLAtHL :=
  RoundTrip.byte1 0x6E rfl (fun _ _ => rfl) rfl (by decide)
theorem RoundTrip.ldLA : RoundTrip.Statement .ldLA :=
  RoundTrip.byte1 0x6F rfl (fun _ _ => rfl) rfl (by decide)
theorem RoundTrip.ldAtHLB : RoundTrip.Statement .ldAtHLB :=
  RoundTrip.byte1 0x70 rfl (fun _ _ => rfl) rfl (by decide)
theorem RoundTrip.ldAtHLC : RoundTrip.Statement .ldAtHLC :=
  RoundTrip.byte1 0x71 rfl (fun _ _ => rfl) rfl (by decide)
theorem RoundTrip.ldAtHLD : RoundTrip.Statement .ldAtHLD :=
  RoundTrip.byte1 0x72 rfl (fun _ _ => rfl) rfl (by decide)
theorem RoundTrip.ldAtHLE : RoundTrip.Statement .ldAtHLE :=
  RoundTrip.byte1 0x73 rfl (fun _ _ => rfl) rfl (by decide)
theorem RoundTrip.ldAtHLH : RoundTrip.Statement .ldAtHLH :=
  RoundTrip.byte1 0x74 rfl (fun _ _ => rfl) rfl (by decide)
theorem RoundTrip.ldAtHLL : RoundTrip.Statement .ldAtHLL :=
  RoundTrip.byte1 0x75 rfl (fun _ _ => rfl) rfl (by decide)
theorem RoundTrip.halt : RoundTrip.Statement .halt :=
  RoundTrip.byte1 0x76 rfl (fun _ _ => rfl) rfl (by decide)
theorem RoundTrip.ldAtHLA : RoundTrip.Statement .ldAtHLA :=
  RoundTrip.byte1 0x77 rfl (fun _ _ => rfl) rfl (by decide)
theorem RoundTrip.ldAB : RoundTrip.Statement .ldAB :=
  RoundTrip.byte1 0x78 rfl (fun _ _ => rfl) rfl (by decide)
theorem RoundTrip.ldAC : RoundTrip.Statement .ldAC :=
  RoundTrip.byte1 0x79 rfl (fun _ _ => rfl) rfl (by decide)
theorem RoundTrip.ldAD : RoundTrip.Statement .ldAD :=
  RoundTrip.byte1 0x7A rfl (fun _ _ => rfl) rfl (by decide)
theorem RoundTrip.ldAE : RoundTrip.Statement .ldAE :=
  RoundTrip.byte1 0x7B rfl (fun _ _ => rfl) rfl (by decide)
theorem RoundTrip.ldAH : RoundTrip.Statement .ldAH :=
  RoundTrip.byte1 0x7C rfl (fun _ _ => rfl) rfl (by decide)
theorem RoundTrip.ldAL : RoundTrip.Statement .ldAL :=
  RoundTrip.byte1 0x7D rfl (fun _ _ => rfl) rfl (by decide)
theorem RoundTrip.ldAAtHL : RoundTrip.Statement .ldAAtHL :=
  RoundTrip.byte1 0x7E rfl (fun _ _ => rfl) rfl (by decide)
theorem RoundTrip.ldAA : RoundTrip.Statement .ldAA :=
  RoundTrip.byte1 0x7F rfl (fun _ _ => rfl) rfl (by decide)
theorem RoundTrip.addAB : RoundTrip.Statement .addAB :=
  RoundTrip.byte1 0x80 rfl (fun _ _ => rfl) rfl (by decide)
theorem RoundTrip.addAC : RoundTrip.Statement .addAC :=
  RoundTrip.byte1 0x81 rfl (fun _ _ => rfl) rfl (by decide)
theorem RoundTrip.addAD : RoundTrip.Statement .addAD :=
  RoundTrip.byte1 0x82 rfl (fun _ _ => rfl) rfl (by decide)
theorem RoundTrip.addAE : RoundTrip.Statement .addAE :=
  RoundTrip.byte1 0x83 rfl (fun _ _ => rfl) rfl (by decide)
theorem RoundTrip.addAH : RoundTrip.Statement .addAH :=
  RoundTrip.byte1 0x84 rfl (fun _ _ => rfl) rfl (by decide)
theorem RoundTrip.addAL : RoundTrip.Statement .addAL :=
  RoundTrip.byte1 0x85 rfl (fun _ _ => rfl) rfl (by decide)
theorem RoundTrip.addAAtHL : RoundTrip.Statement .addAAtHL :=
  RoundTrip.byte1 0x86 rfl (fun _ _ => rfl) rfl (by decide)
theorem RoundTrip.addAA : RoundTrip.Statement .addAA :=
  RoundTrip.byte1 0x87 rfl (fun _ _ => rfl) rfl (by decide)
theorem RoundTrip.adcAB : RoundTrip.Statement .adcAB :=
  RoundTrip.byte1 0x88 rfl (fun _ _ => rfl) rfl (by decide)
theorem RoundTrip.adcAC : RoundTrip.Statement .adcAC :=
  RoundTrip.byte1 0x89 rfl (fun _ _ => rfl) rfl (by decide)
theorem RoundTrip.adcAD : RoundTrip.Statement .adcAD :=
  RoundTrip.byte1 0x8A rfl (fun _ _ => rfl) rfl (by decide)
theorem RoundTrip.adcAE : RoundTrip.Statement .adcAE :=
  RoundTrip.byte1 0x8B rfl (fun _ _ => rfl) rfl (by decide)
theorem RoundTrip.adcAH : RoundTrip.Statement .adcAH :=
  RoundTrip.byte1 0x8C rfl (fun _ _ => rfl) rfl (by decide)
theorem RoundTrip.adcAL : RoundTrip.Statement .adcAL :=
  RoundTrip.byte1 0x8D rfl (fun _ _ => rfl) rfl (by decide)
theorem RoundTrip.adcAAtHL : RoundTrip.Statement .adcAAtHL :=
  RoundTrip.byte1 0x8E rfl (fun _ _ => rfl) rfl (by decide)
theorem RoundTrip.adcAA : RoundTrip.Statement .adcAA :=
  RoundTrip.byte1 0x8F rfl (fun _ _ => rfl) rfl (by decide)
theorem RoundTrip.subB : RoundTrip.Statement .subB :=
  RoundTrip.byte1 0x90 rfl (fun _ _ => rfl) rfl (by decide)
theorem RoundTrip.subC : RoundTrip.Statement .subC :=
  RoundTrip.byte1 0x91 rfl (fun _ _ => rfl) rfl (by decide)
theorem RoundTrip.subD : RoundTrip.Statement .subD :=
  RoundTrip.byte1 0x92 rfl (fun _ _ => rfl) rfl (by decide)
theorem RoundTrip.subE : RoundTrip.Statement .subE :=
  RoundTrip.byte1 0x93 rfl (fun _ _ => rfl) rfl (by decide)
theorem RoundTrip.subH : RoundTrip.Statement .subH :=
  RoundTrip.byte1 0x94 rfl (fun _ _ => rfl) rfl (by decide)
theorem RoundTrip.subL : RoundTrip.Statement .subL :=
  RoundTrip.byte1 0x95 rfl (fun _ _ => rfl) rfl (by decide)
theorem RoundTrip.subAtHL : RoundTrip.Statement .subAtHL :=
  RoundTrip.byte1 0x96 rfl (fun _ _ => rfl) rfl (by decide)
theorem RoundTrip.subA : RoundTrip.Statement .subA :=
  RoundTrip.byte1 0x97 rfl (fun _ _ => rfl) rfl (by decide)
theorem RoundTrip.sbcAB : RoundTrip.Statement .sbcAB :=
  RoundTrip.byte1 0x98 rfl (fun _ _ => rfl) rfl (by decide)
theorem RoundTrip.sbcAC : RoundTrip.Statement .sbcAC :=
  RoundTrip.byte1 0x99 rfl (fun _ _ => rfl) rfl (by decide)
theorem RoundTrip.sbcAD : RoundTrip.Statement .sbcAD :=
  RoundTrip.byte1 0x9A rfl (fun _ _ => rfl) rfl (by decide)
theorem RoundTrip.sbcAE : RoundTrip.Statement .sbcAE :=
  RoundTrip.byte1 0x9B rfl (fun _ _ => rfl) rfl (by decide)
theorem RoundTrip.sbcAH : RoundTrip.Statement .sbcAH :=
  RoundTrip.byte1 0x9C rfl (fun _ _ => rfl) rfl (by decide)
theorem RoundTrip.sbcAL : RoundTrip.Statement .sbcAL :=
  RoundTrip.byte1 0x9D rfl (fun _ _ => rfl) rfl (by decide)
theorem RoundTrip.sbcAAtHL : RoundTrip.Statement .sbcAAtHL :=
  RoundTrip.byte1 0x9E rfl (fun _ _ => rfl) rfl (by decide)
theorem RoundTrip.sbcAA : RoundTrip.Statement .sbcAA :=
  RoundTrip.byte1 0x9F rfl (fun _ _ => rfl) rfl (by decide)
theorem RoundTrip.andB : RoundTrip.Statement .andB :=
  RoundTrip.byte1 0xA0 rfl (fun _ _ => rfl) rfl (by decide)
theorem RoundTrip.andC : RoundTrip.Statement .andC :=
  RoundTrip.byte1 0xA1 rfl (fun _ _ => rfl) rfl (by decide)
theorem RoundTrip.andD : RoundTrip.Statement .andD :=
  RoundTrip.byte1 0xA2 rfl (fun _ _ => rfl) rfl (by decide)
theorem RoundTrip.andE : RoundTrip.Statement .andE :=
  RoundTrip.byte1 0xA3 rfl (fun _ _ => rfl) rfl (by decide)
theorem RoundTrip.andH : RoundTrip.Statement .andH :=
  RoundTrip.byte1 0xA4 rfl (fun _ _ => rfl) rfl (by decide)
theorem RoundTrip.andL : RoundTrip.Statement .andL :=
  RoundTrip.byte1 0xA5 rfl (fun _ _ => rfl) rfl (by decide)
theorem RoundTrip.andAtHL : RoundTrip.Statement .andAtHL :=
  RoundTrip.byte1 0xA6 rfl (fun _ _ => rfl) rfl (by decide)
theorem RoundTrip.andA : RoundTrip.Statement .andA :=
  RoundTrip.byte1 0xA7 rfl (fun _ _ => rfl) rfl (by decide)
theorem RoundTrip.xorB : RoundTrip.Statement .xorB :=
  RoundTrip.byte1 0xA8 rfl (fun _ _ => rfl) rfl (by decide)
theorem RoundTrip.xorC : RoundTrip.Statement .xorC :=
  RoundTrip.byte1 0xA9 rfl (fun _ _ => rfl) rfl (by decide)
theorem RoundTrip.xorD : RoundTrip.Statement .xorD :=
  RoundTrip.byte1 0xAA rfl (fun _ _ => rfl) rfl (by decide)
theorem RoundTrip.xorE : RoundTrip.Statement .xorE :=
  RoundTrip.byte1 0xAB rfl (fun _ _ => rfl) rfl (by decide)
theorem RoundTrip.xorH : RoundTrip.Statement .xorH :=
  RoundTrip.byte1 0xAC rfl (fun _ _ => rfl) rfl (by decide)
theorem RoundTrip.xorL : RoundTrip.Statement .xorL :=
  RoundTrip.byte1 0xAD rfl (fun _ _ => rfl) rfl (by decide)
theorem RoundTrip.xorAtHL : RoundTrip.Statement .xorAtHL :=
  RoundTrip.byte1 0xAE rfl (fun _ _ => rfl) rfl (by decide)
theorem RoundTrip.xorA : RoundTrip.Statement .xorA :=
  RoundTrip.byte1 0xAF rfl (fun _ _ => rfl) rfl (by decide)
theorem RoundTrip.orB : RoundTrip.Statement .orB :=
  RoundTrip.byte1 0xB0 rfl (fun _ _ => rfl) rfl (by decide)
theorem RoundTrip.orC : RoundTrip.Statement .orC :=
  RoundTrip.byte1 0xB1 rfl (fun _ _ => rfl) rfl (by decide)
theorem RoundTrip.orD : RoundTrip.Statement .orD :=
  RoundTrip.byte1 0xB2 rfl (fun _ _ => rfl) rfl (by decide)
theorem RoundTrip.orE : RoundTrip.Statement .orE :=
  RoundTrip.byte1 0xB3 rfl (fun _ _ => rfl) rfl (by decide)
theorem RoundTrip.orH : RoundTrip.Statement .orH :=
  RoundTrip.byte1 0xB4 rfl (fun _ _ => rfl) rfl (by decide)
theorem RoundTrip.orL : RoundTrip.Statement .orL :=
  RoundTrip.byte1 0xB5 rfl (fun _ _ => rfl) rfl (by decide)
theorem RoundTrip.orAtHL : RoundTrip.Statement .orAtHL :=
  RoundTrip.byte1 0xB6 rfl (fun _ _ => rfl) rfl (by decide)
theorem RoundTrip.orA : RoundTrip.Statement .orA :=
  RoundTrip.byte1 0xB7 rfl (fun _ _ => rfl) rfl (by decide)
theorem RoundTrip.cpB : RoundTrip.Statement .cpB :=
  RoundTrip.byte1 0xB8 rfl (fun _ _ => rfl) rfl (by decide)
theorem RoundTrip.cpC : RoundTrip.Statement .cpC :=
  RoundTrip.byte1 0xB9 rfl (fun _ _ => rfl) rfl (by decide)
theorem RoundTrip.cpD : RoundTrip.Statement .cpD :=
  RoundTrip.byte1 0xBA rfl (fun _ _ => rfl) rfl (by decide)
theorem RoundTrip.cpE : RoundTrip.Statement .cpE :=
  RoundTrip.byte1 0xBB rfl (fun _ _ => rfl) rfl (by decide)
theorem RoundTrip.cpH : RoundTrip.Statement .cpH :=
  RoundTrip.byte1 0xBC rfl (fun _ _ => rfl) rfl (by decide)
theorem RoundTrip.cpL : RoundTrip.Statement .cpL :=
  RoundTrip.byte1 0xBD rfl (fun _ _ => rfl) rfl (by decide)
theorem RoundTrip.cpAtHL : RoundTrip.Statement .cpAtHL :=
  RoundTrip.byte1 0xBE rfl (fun _ _ => rfl) rfl (by decide)
theorem RoundTrip.cpA : RoundTrip.Statement .cpA :=
  RoundTrip.byte1 0xBF rfl (fun _ _ => rfl) rfl (by decide)
theorem RoundTrip.retNZ : RoundTrip.Statement .retNZ :=
  RoundTrip.byte1 0xC0 rfl (fun _ _ => rfl) rfl (by decide)
theorem RoundTrip.popBC : RoundTrip.Statement .popBC :=
  RoundTrip.byte1 0xC1 rfl (fun _ _ => rfl) rfl (by decide)
theorem RoundTrip.jpNZA16 (a : Word) : RoundTrip.Statement (.jpNZA16 a) :=
  RoundTrip.byte3 0xC2 a rfl (congrArg Instr.jpNZA16 (Machine.concat_hiByte_loByte a)) rfl
theorem RoundTrip.jpA16 (a : Word) : RoundTrip.Statement (.jpA16 a) :=
  RoundTrip.byte3 0xC3 a rfl (congrArg Instr.jpA16 (Machine.concat_hiByte_loByte a)) rfl
theorem RoundTrip.callNZA16 (a : Word) : RoundTrip.Statement (.callNZA16 a) :=
  RoundTrip.byte3 0xC4 a rfl (congrArg Instr.callNZA16 (Machine.concat_hiByte_loByte a)) rfl
theorem RoundTrip.pushBC : RoundTrip.Statement .pushBC :=
  RoundTrip.byte1 0xC5 rfl (fun _ _ => rfl) rfl (by decide)
theorem RoundTrip.addAN8 (n : Byte) : RoundTrip.Statement (.addAN8 n) :=
  RoundTrip.byte2 0xC6 n rfl (fun _ => rfl) rfl
theorem RoundTrip.rst00 : RoundTrip.Statement .rst00 :=
  RoundTrip.byte1 0xC7 rfl (fun _ _ => rfl) rfl (by decide)
theorem RoundTrip.retZ : RoundTrip.Statement .retZ :=
  RoundTrip.byte1 0xC8 rfl (fun _ _ => rfl) rfl (by decide)
theorem RoundTrip.ret : RoundTrip.Statement .ret :=
  RoundTrip.byte1 0xC9 rfl (fun _ _ => rfl) rfl (by decide)
theorem RoundTrip.jpZA16 (a : Word) : RoundTrip.Statement (.jpZA16 a) :=
  RoundTrip.byte3 0xCA a rfl (congrArg Instr.jpZA16 (Machine.concat_hiByte_loByte a)) rfl
theorem RoundTrip.prefixCB : RoundTrip.Statement .prefixCB :=
  fun h => absurd h (by decide)
theorem RoundTrip.callZA16 (a : Word) : RoundTrip.Statement (.callZA16 a) :=
  RoundTrip.byte3 0xCC a rfl (congrArg Instr.callZA16 (Machine.concat_hiByte_loByte a)) rfl
theorem RoundTrip.callA16 (a : Word) : RoundTrip.Statement (.callA16 a) :=
  RoundTrip.byte3 0xCD a rfl (congrArg Instr.callA16 (Machine.concat_hiByte_loByte a)) rfl
theorem RoundTrip.adcAN8 (n : Byte) : RoundTrip.Statement (.adcAN8 n) :=
  RoundTrip.byte2 0xCE n rfl (fun _ => rfl) rfl
theorem RoundTrip.rst08 : RoundTrip.Statement .rst08 :=
  RoundTrip.byte1 0xCF rfl (fun _ _ => rfl) rfl (by decide)
theorem RoundTrip.retNC : RoundTrip.Statement .retNC :=
  RoundTrip.byte1 0xD0 rfl (fun _ _ => rfl) rfl (by decide)
theorem RoundTrip.popDE : RoundTrip.Statement .popDE :=
  RoundTrip.byte1 0xD1 rfl (fun _ _ => rfl) rfl (by decide)
theorem RoundTrip.jpNCA16 (a : Word) : RoundTrip.Statement (.jpNCA16 a) :=
  RoundTrip.byte3 0xD2 a rfl (congrArg Instr.jpNCA16 (Machine.concat_hiByte_loByte a)) rfl
theorem RoundTrip.illegalD3 : RoundTrip.Statement .illegalD3 :=
  RoundTrip.byte1 0xD3 rfl (fun _ _ => rfl) rfl (by decide)
theorem RoundTrip.callNCA16 (a : Word) : RoundTrip.Statement (.callNCA16 a) :=
  RoundTrip.byte3 0xD4 a rfl (congrArg Instr.callNCA16 (Machine.concat_hiByte_loByte a)) rfl
theorem RoundTrip.pushDE : RoundTrip.Statement .pushDE :=
  RoundTrip.byte1 0xD5 rfl (fun _ _ => rfl) rfl (by decide)
theorem RoundTrip.subN8 (n : Byte) : RoundTrip.Statement (.subN8 n) :=
  RoundTrip.byte2 0xD6 n rfl (fun _ => rfl) rfl
theorem RoundTrip.rst10 : RoundTrip.Statement .rst10 :=
  RoundTrip.byte1 0xD7 rfl (fun _ _ => rfl) rfl (by decide)
theorem RoundTrip.retC : RoundTrip.Statement .retC :=
  RoundTrip.byte1 0xD8 rfl (fun _ _ => rfl) rfl (by decide)
theorem RoundTrip.reti : RoundTrip.Statement .reti :=
  RoundTrip.byte1 0xD9 rfl (fun _ _ => rfl) rfl (by decide)
theorem RoundTrip.jpCA16 (a : Word) : RoundTrip.Statement (.jpCA16 a) :=
  RoundTrip.byte3 0xDA a rfl (congrArg Instr.jpCA16 (Machine.concat_hiByte_loByte a)) rfl
theorem RoundTrip.illegalDB : RoundTrip.Statement .illegalDB :=
  RoundTrip.byte1 0xDB rfl (fun _ _ => rfl) rfl (by decide)
theorem RoundTrip.callCA16 (a : Word) : RoundTrip.Statement (.callCA16 a) :=
  RoundTrip.byte3 0xDC a rfl (congrArg Instr.callCA16 (Machine.concat_hiByte_loByte a)) rfl
theorem RoundTrip.illegalDD : RoundTrip.Statement .illegalDD :=
  RoundTrip.byte1 0xDD rfl (fun _ _ => rfl) rfl (by decide)
theorem RoundTrip.sbcAN8 (n : Byte) : RoundTrip.Statement (.sbcAN8 n) :=
  RoundTrip.byte2 0xDE n rfl (fun _ => rfl) rfl
theorem RoundTrip.rst18 : RoundTrip.Statement .rst18 :=
  RoundTrip.byte1 0xDF rfl (fun _ _ => rfl) rfl (by decide)
theorem RoundTrip.ldhAtA8A (n : Byte) : RoundTrip.Statement (.ldhAtA8A n) :=
  RoundTrip.byte2 0xE0 n rfl (fun _ => rfl) rfl
theorem RoundTrip.popHL : RoundTrip.Statement .popHL :=
  RoundTrip.byte1 0xE1 rfl (fun _ _ => rfl) rfl (by decide)
theorem RoundTrip.ldAtCA : RoundTrip.Statement .ldAtCA :=
  RoundTrip.byte1 0xE2 rfl (fun _ _ => rfl) rfl (by decide)
theorem RoundTrip.illegalE3 : RoundTrip.Statement .illegalE3 :=
  RoundTrip.byte1 0xE3 rfl (fun _ _ => rfl) rfl (by decide)
theorem RoundTrip.illegalE4 : RoundTrip.Statement .illegalE4 :=
  RoundTrip.byte1 0xE4 rfl (fun _ _ => rfl) rfl (by decide)
theorem RoundTrip.pushHL : RoundTrip.Statement .pushHL :=
  RoundTrip.byte1 0xE5 rfl (fun _ _ => rfl) rfl (by decide)
theorem RoundTrip.andN8 (n : Byte) : RoundTrip.Statement (.andN8 n) :=
  RoundTrip.byte2 0xE6 n rfl (fun _ => rfl) rfl
theorem RoundTrip.rst20 : RoundTrip.Statement .rst20 :=
  RoundTrip.byte1 0xE7 rfl (fun _ _ => rfl) rfl (by decide)
theorem RoundTrip.addSPE8 (e : Byte) : RoundTrip.Statement (.addSPE8 e) :=
  RoundTrip.byte2 0xE8 e rfl (fun _ => rfl) rfl
theorem RoundTrip.jpHL : RoundTrip.Statement .jpHL :=
  RoundTrip.byte1 0xE9 rfl (fun _ _ => rfl) rfl (by decide)
theorem RoundTrip.ldAtA16A (a : Word) : RoundTrip.Statement (.ldAtA16A a) :=
  RoundTrip.byte3 0xEA a rfl (congrArg Instr.ldAtA16A (Machine.concat_hiByte_loByte a)) rfl
theorem RoundTrip.illegalEB : RoundTrip.Statement .illegalEB :=
  RoundTrip.byte1 0xEB rfl (fun _ _ => rfl) rfl (by decide)
theorem RoundTrip.illegalEC : RoundTrip.Statement .illegalEC :=
  RoundTrip.byte1 0xEC rfl (fun _ _ => rfl) rfl (by decide)
theorem RoundTrip.illegalED : RoundTrip.Statement .illegalED :=
  RoundTrip.byte1 0xED rfl (fun _ _ => rfl) rfl (by decide)
theorem RoundTrip.xorN8 (n : Byte) : RoundTrip.Statement (.xorN8 n) :=
  RoundTrip.byte2 0xEE n rfl (fun _ => rfl) rfl
theorem RoundTrip.rst28 : RoundTrip.Statement .rst28 :=
  RoundTrip.byte1 0xEF rfl (fun _ _ => rfl) rfl (by decide)
theorem RoundTrip.ldhAAtA8 (n : Byte) : RoundTrip.Statement (.ldhAAtA8 n) :=
  RoundTrip.byte2 0xF0 n rfl (fun _ => rfl) rfl
theorem RoundTrip.popAF : RoundTrip.Statement .popAF :=
  RoundTrip.byte1 0xF1 rfl (fun _ _ => rfl) rfl (by decide)
theorem RoundTrip.ldAAtC : RoundTrip.Statement .ldAAtC :=
  RoundTrip.byte1 0xF2 rfl (fun _ _ => rfl) rfl (by decide)
theorem RoundTrip.di : RoundTrip.Statement .di :=
  RoundTrip.byte1 0xF3 rfl (fun _ _ => rfl) rfl (by decide)
theorem RoundTrip.illegalF4 : RoundTrip.Statement .illegalF4 :=
  RoundTrip.byte1 0xF4 rfl (fun _ _ => rfl) rfl (by decide)
theorem RoundTrip.pushAF : RoundTrip.Statement .pushAF :=
  RoundTrip.byte1 0xF5 rfl (fun _ _ => rfl) rfl (by decide)
theorem RoundTrip.orN8 (n : Byte) : RoundTrip.Statement (.orN8 n) :=
  RoundTrip.byte2 0xF6 n rfl (fun _ => rfl) rfl
theorem RoundTrip.rst30 : RoundTrip.Statement .rst30 :=
  RoundTrip.byte1 0xF7 rfl (fun _ _ => rfl) rfl (by decide)
theorem RoundTrip.ldHLSPE8 (e : Byte) : RoundTrip.Statement (.ldHLSPE8 e) :=
  RoundTrip.byte2 0xF8 e rfl (fun _ => rfl) rfl
theorem RoundTrip.ldSPHL : RoundTrip.Statement .ldSPHL :=
  RoundTrip.byte1 0xF9 rfl (fun _ _ => rfl) rfl (by decide)
theorem RoundTrip.ldAAtA16 (a : Word) : RoundTrip.Statement (.ldAAtA16 a) :=
  RoundTrip.byte3 0xFA a rfl (congrArg Instr.ldAAtA16 (Machine.concat_hiByte_loByte a)) rfl
theorem RoundTrip.ei : RoundTrip.Statement .ei :=
  RoundTrip.byte1 0xFB rfl (fun _ _ => rfl) rfl (by decide)
theorem RoundTrip.illegalFC : RoundTrip.Statement .illegalFC :=
  RoundTrip.byte1 0xFC rfl (fun _ _ => rfl) rfl (by decide)
theorem RoundTrip.illegalFD : RoundTrip.Statement .illegalFD :=
  RoundTrip.byte1 0xFD rfl (fun _ _ => rfl) rfl (by decide)
theorem RoundTrip.cpN8 (n : Byte) : RoundTrip.Statement (.cpN8 n) :=
  RoundTrip.byte2 0xFE n rfl (fun _ => rfl) rfl
theorem RoundTrip.rst38 : RoundTrip.Statement .rst38 :=
  RoundTrip.byte1 0xFF rfl (fun _ _ => rfl) rfl (by decide)
theorem RoundTrip.rlcB : RoundTrip.Statement .rlcB :=
  RoundTrip.byte2 0xCB 0x00 rfl (fun _ => rfl) rfl
theorem RoundTrip.rlcC : RoundTrip.Statement .rlcC :=
  RoundTrip.byte2 0xCB 0x01 rfl (fun _ => rfl) rfl
theorem RoundTrip.rlcD : RoundTrip.Statement .rlcD :=
  RoundTrip.byte2 0xCB 0x02 rfl (fun _ => rfl) rfl
theorem RoundTrip.rlcE : RoundTrip.Statement .rlcE :=
  RoundTrip.byte2 0xCB 0x03 rfl (fun _ => rfl) rfl
theorem RoundTrip.rlcH : RoundTrip.Statement .rlcH :=
  RoundTrip.byte2 0xCB 0x04 rfl (fun _ => rfl) rfl
theorem RoundTrip.rlcL : RoundTrip.Statement .rlcL :=
  RoundTrip.byte2 0xCB 0x05 rfl (fun _ => rfl) rfl
theorem RoundTrip.rlcAtHL : RoundTrip.Statement .rlcAtHL :=
  RoundTrip.byte2 0xCB 0x06 rfl (fun _ => rfl) rfl
theorem RoundTrip.rlcA : RoundTrip.Statement .rlcA :=
  RoundTrip.byte2 0xCB 0x07 rfl (fun _ => rfl) rfl
theorem RoundTrip.rrcB : RoundTrip.Statement .rrcB :=
  RoundTrip.byte2 0xCB 0x08 rfl (fun _ => rfl) rfl
theorem RoundTrip.rrcC : RoundTrip.Statement .rrcC :=
  RoundTrip.byte2 0xCB 0x09 rfl (fun _ => rfl) rfl
theorem RoundTrip.rrcD : RoundTrip.Statement .rrcD :=
  RoundTrip.byte2 0xCB 0x0A rfl (fun _ => rfl) rfl
theorem RoundTrip.rrcE : RoundTrip.Statement .rrcE :=
  RoundTrip.byte2 0xCB 0x0B rfl (fun _ => rfl) rfl
theorem RoundTrip.rrcH : RoundTrip.Statement .rrcH :=
  RoundTrip.byte2 0xCB 0x0C rfl (fun _ => rfl) rfl
theorem RoundTrip.rrcL : RoundTrip.Statement .rrcL :=
  RoundTrip.byte2 0xCB 0x0D rfl (fun _ => rfl) rfl
theorem RoundTrip.rrcAtHL : RoundTrip.Statement .rrcAtHL :=
  RoundTrip.byte2 0xCB 0x0E rfl (fun _ => rfl) rfl
theorem RoundTrip.rrcA : RoundTrip.Statement .rrcA :=
  RoundTrip.byte2 0xCB 0x0F rfl (fun _ => rfl) rfl
theorem RoundTrip.rlB : RoundTrip.Statement .rlB :=
  RoundTrip.byte2 0xCB 0x10 rfl (fun _ => rfl) rfl
theorem RoundTrip.rlC : RoundTrip.Statement .rlC :=
  RoundTrip.byte2 0xCB 0x11 rfl (fun _ => rfl) rfl
theorem RoundTrip.rlD : RoundTrip.Statement .rlD :=
  RoundTrip.byte2 0xCB 0x12 rfl (fun _ => rfl) rfl
theorem RoundTrip.rlE : RoundTrip.Statement .rlE :=
  RoundTrip.byte2 0xCB 0x13 rfl (fun _ => rfl) rfl
theorem RoundTrip.rlH : RoundTrip.Statement .rlH :=
  RoundTrip.byte2 0xCB 0x14 rfl (fun _ => rfl) rfl
theorem RoundTrip.rlL : RoundTrip.Statement .rlL :=
  RoundTrip.byte2 0xCB 0x15 rfl (fun _ => rfl) rfl
theorem RoundTrip.rlAtHL : RoundTrip.Statement .rlAtHL :=
  RoundTrip.byte2 0xCB 0x16 rfl (fun _ => rfl) rfl
theorem RoundTrip.rlA : RoundTrip.Statement .rlA :=
  RoundTrip.byte2 0xCB 0x17 rfl (fun _ => rfl) rfl
theorem RoundTrip.rrB : RoundTrip.Statement .rrB :=
  RoundTrip.byte2 0xCB 0x18 rfl (fun _ => rfl) rfl
theorem RoundTrip.rrC : RoundTrip.Statement .rrC :=
  RoundTrip.byte2 0xCB 0x19 rfl (fun _ => rfl) rfl
theorem RoundTrip.rrD : RoundTrip.Statement .rrD :=
  RoundTrip.byte2 0xCB 0x1A rfl (fun _ => rfl) rfl
theorem RoundTrip.rrE : RoundTrip.Statement .rrE :=
  RoundTrip.byte2 0xCB 0x1B rfl (fun _ => rfl) rfl
theorem RoundTrip.rrH : RoundTrip.Statement .rrH :=
  RoundTrip.byte2 0xCB 0x1C rfl (fun _ => rfl) rfl
theorem RoundTrip.rrL : RoundTrip.Statement .rrL :=
  RoundTrip.byte2 0xCB 0x1D rfl (fun _ => rfl) rfl
theorem RoundTrip.rrAtHL : RoundTrip.Statement .rrAtHL :=
  RoundTrip.byte2 0xCB 0x1E rfl (fun _ => rfl) rfl
theorem RoundTrip.rrA : RoundTrip.Statement .rrA :=
  RoundTrip.byte2 0xCB 0x1F rfl (fun _ => rfl) rfl
theorem RoundTrip.slaB : RoundTrip.Statement .slaB :=
  RoundTrip.byte2 0xCB 0x20 rfl (fun _ => rfl) rfl
theorem RoundTrip.slaC : RoundTrip.Statement .slaC :=
  RoundTrip.byte2 0xCB 0x21 rfl (fun _ => rfl) rfl
theorem RoundTrip.slaD : RoundTrip.Statement .slaD :=
  RoundTrip.byte2 0xCB 0x22 rfl (fun _ => rfl) rfl
theorem RoundTrip.slaE : RoundTrip.Statement .slaE :=
  RoundTrip.byte2 0xCB 0x23 rfl (fun _ => rfl) rfl
theorem RoundTrip.slaH : RoundTrip.Statement .slaH :=
  RoundTrip.byte2 0xCB 0x24 rfl (fun _ => rfl) rfl
theorem RoundTrip.slaL : RoundTrip.Statement .slaL :=
  RoundTrip.byte2 0xCB 0x25 rfl (fun _ => rfl) rfl
theorem RoundTrip.slaAtHL : RoundTrip.Statement .slaAtHL :=
  RoundTrip.byte2 0xCB 0x26 rfl (fun _ => rfl) rfl
theorem RoundTrip.slaA : RoundTrip.Statement .slaA :=
  RoundTrip.byte2 0xCB 0x27 rfl (fun _ => rfl) rfl
theorem RoundTrip.sraB : RoundTrip.Statement .sraB :=
  RoundTrip.byte2 0xCB 0x28 rfl (fun _ => rfl) rfl
theorem RoundTrip.sraC : RoundTrip.Statement .sraC :=
  RoundTrip.byte2 0xCB 0x29 rfl (fun _ => rfl) rfl
theorem RoundTrip.sraD : RoundTrip.Statement .sraD :=
  RoundTrip.byte2 0xCB 0x2A rfl (fun _ => rfl) rfl
theorem RoundTrip.sraE : RoundTrip.Statement .sraE :=
  RoundTrip.byte2 0xCB 0x2B rfl (fun _ => rfl) rfl
theorem RoundTrip.sraH : RoundTrip.Statement .sraH :=
  RoundTrip.byte2 0xCB 0x2C rfl (fun _ => rfl) rfl
theorem RoundTrip.sraL : RoundTrip.Statement .sraL :=
  RoundTrip.byte2 0xCB 0x2D rfl (fun _ => rfl) rfl
theorem RoundTrip.sraAtHL : RoundTrip.Statement .sraAtHL :=
  RoundTrip.byte2 0xCB 0x2E rfl (fun _ => rfl) rfl
theorem RoundTrip.sraA : RoundTrip.Statement .sraA :=
  RoundTrip.byte2 0xCB 0x2F rfl (fun _ => rfl) rfl
theorem RoundTrip.swapB : RoundTrip.Statement .swapB :=
  RoundTrip.byte2 0xCB 0x30 rfl (fun _ => rfl) rfl
theorem RoundTrip.swapC : RoundTrip.Statement .swapC :=
  RoundTrip.byte2 0xCB 0x31 rfl (fun _ => rfl) rfl
theorem RoundTrip.swapD : RoundTrip.Statement .swapD :=
  RoundTrip.byte2 0xCB 0x32 rfl (fun _ => rfl) rfl
theorem RoundTrip.swapE : RoundTrip.Statement .swapE :=
  RoundTrip.byte2 0xCB 0x33 rfl (fun _ => rfl) rfl
theorem RoundTrip.swapH : RoundTrip.Statement .swapH :=
  RoundTrip.byte2 0xCB 0x34 rfl (fun _ => rfl) rfl
theorem RoundTrip.swapL : RoundTrip.Statement .swapL :=
  RoundTrip.byte2 0xCB 0x35 rfl (fun _ => rfl) rfl
theorem RoundTrip.swapAtHL : RoundTrip.Statement .swapAtHL :=
  RoundTrip.byte2 0xCB 0x36 rfl (fun _ => rfl) rfl
theorem RoundTrip.swapA : RoundTrip.Statement .swapA :=
  RoundTrip.byte2 0xCB 0x37 rfl (fun _ => rfl) rfl
theorem RoundTrip.srlB : RoundTrip.Statement .srlB :=
  RoundTrip.byte2 0xCB 0x38 rfl (fun _ => rfl) rfl
theorem RoundTrip.srlC : RoundTrip.Statement .srlC :=
  RoundTrip.byte2 0xCB 0x39 rfl (fun _ => rfl) rfl
theorem RoundTrip.srlD : RoundTrip.Statement .srlD :=
  RoundTrip.byte2 0xCB 0x3A rfl (fun _ => rfl) rfl
theorem RoundTrip.srlE : RoundTrip.Statement .srlE :=
  RoundTrip.byte2 0xCB 0x3B rfl (fun _ => rfl) rfl
theorem RoundTrip.srlH : RoundTrip.Statement .srlH :=
  RoundTrip.byte2 0xCB 0x3C rfl (fun _ => rfl) rfl
theorem RoundTrip.srlL : RoundTrip.Statement .srlL :=
  RoundTrip.byte2 0xCB 0x3D rfl (fun _ => rfl) rfl
theorem RoundTrip.srlAtHL : RoundTrip.Statement .srlAtHL :=
  RoundTrip.byte2 0xCB 0x3E rfl (fun _ => rfl) rfl
theorem RoundTrip.srlA : RoundTrip.Statement .srlA :=
  RoundTrip.byte2 0xCB 0x3F rfl (fun _ => rfl) rfl
theorem RoundTrip.bit0B : RoundTrip.Statement .bit0B :=
  RoundTrip.byte2 0xCB 0x40 rfl (fun _ => rfl) rfl
theorem RoundTrip.bit0C : RoundTrip.Statement .bit0C :=
  RoundTrip.byte2 0xCB 0x41 rfl (fun _ => rfl) rfl
theorem RoundTrip.bit0D : RoundTrip.Statement .bit0D :=
  RoundTrip.byte2 0xCB 0x42 rfl (fun _ => rfl) rfl
theorem RoundTrip.bit0E : RoundTrip.Statement .bit0E :=
  RoundTrip.byte2 0xCB 0x43 rfl (fun _ => rfl) rfl
theorem RoundTrip.bit0H : RoundTrip.Statement .bit0H :=
  RoundTrip.byte2 0xCB 0x44 rfl (fun _ => rfl) rfl
theorem RoundTrip.bit0L : RoundTrip.Statement .bit0L :=
  RoundTrip.byte2 0xCB 0x45 rfl (fun _ => rfl) rfl
theorem RoundTrip.bit0AtHL : RoundTrip.Statement .bit0AtHL :=
  RoundTrip.byte2 0xCB 0x46 rfl (fun _ => rfl) rfl
theorem RoundTrip.bit0A : RoundTrip.Statement .bit0A :=
  RoundTrip.byte2 0xCB 0x47 rfl (fun _ => rfl) rfl
theorem RoundTrip.bit1B : RoundTrip.Statement .bit1B :=
  RoundTrip.byte2 0xCB 0x48 rfl (fun _ => rfl) rfl
theorem RoundTrip.bit1C : RoundTrip.Statement .bit1C :=
  RoundTrip.byte2 0xCB 0x49 rfl (fun _ => rfl) rfl
theorem RoundTrip.bit1D : RoundTrip.Statement .bit1D :=
  RoundTrip.byte2 0xCB 0x4A rfl (fun _ => rfl) rfl
theorem RoundTrip.bit1E : RoundTrip.Statement .bit1E :=
  RoundTrip.byte2 0xCB 0x4B rfl (fun _ => rfl) rfl
theorem RoundTrip.bit1H : RoundTrip.Statement .bit1H :=
  RoundTrip.byte2 0xCB 0x4C rfl (fun _ => rfl) rfl
theorem RoundTrip.bit1L : RoundTrip.Statement .bit1L :=
  RoundTrip.byte2 0xCB 0x4D rfl (fun _ => rfl) rfl
theorem RoundTrip.bit1AtHL : RoundTrip.Statement .bit1AtHL :=
  RoundTrip.byte2 0xCB 0x4E rfl (fun _ => rfl) rfl
theorem RoundTrip.bit1A : RoundTrip.Statement .bit1A :=
  RoundTrip.byte2 0xCB 0x4F rfl (fun _ => rfl) rfl
theorem RoundTrip.bit2B : RoundTrip.Statement .bit2B :=
  RoundTrip.byte2 0xCB 0x50 rfl (fun _ => rfl) rfl
theorem RoundTrip.bit2C : RoundTrip.Statement .bit2C :=
  RoundTrip.byte2 0xCB 0x51 rfl (fun _ => rfl) rfl
theorem RoundTrip.bit2D : RoundTrip.Statement .bit2D :=
  RoundTrip.byte2 0xCB 0x52 rfl (fun _ => rfl) rfl
theorem RoundTrip.bit2E : RoundTrip.Statement .bit2E :=
  RoundTrip.byte2 0xCB 0x53 rfl (fun _ => rfl) rfl
theorem RoundTrip.bit2H : RoundTrip.Statement .bit2H :=
  RoundTrip.byte2 0xCB 0x54 rfl (fun _ => rfl) rfl
theorem RoundTrip.bit2L : RoundTrip.Statement .bit2L :=
  RoundTrip.byte2 0xCB 0x55 rfl (fun _ => rfl) rfl
theorem RoundTrip.bit2AtHL : RoundTrip.Statement .bit2AtHL :=
  RoundTrip.byte2 0xCB 0x56 rfl (fun _ => rfl) rfl
theorem RoundTrip.bit2A : RoundTrip.Statement .bit2A :=
  RoundTrip.byte2 0xCB 0x57 rfl (fun _ => rfl) rfl
theorem RoundTrip.bit3B : RoundTrip.Statement .bit3B :=
  RoundTrip.byte2 0xCB 0x58 rfl (fun _ => rfl) rfl
theorem RoundTrip.bit3C : RoundTrip.Statement .bit3C :=
  RoundTrip.byte2 0xCB 0x59 rfl (fun _ => rfl) rfl
theorem RoundTrip.bit3D : RoundTrip.Statement .bit3D :=
  RoundTrip.byte2 0xCB 0x5A rfl (fun _ => rfl) rfl
theorem RoundTrip.bit3E : RoundTrip.Statement .bit3E :=
  RoundTrip.byte2 0xCB 0x5B rfl (fun _ => rfl) rfl
theorem RoundTrip.bit3H : RoundTrip.Statement .bit3H :=
  RoundTrip.byte2 0xCB 0x5C rfl (fun _ => rfl) rfl
theorem RoundTrip.bit3L : RoundTrip.Statement .bit3L :=
  RoundTrip.byte2 0xCB 0x5D rfl (fun _ => rfl) rfl
theorem RoundTrip.bit3AtHL : RoundTrip.Statement .bit3AtHL :=
  RoundTrip.byte2 0xCB 0x5E rfl (fun _ => rfl) rfl
theorem RoundTrip.bit3A : RoundTrip.Statement .bit3A :=
  RoundTrip.byte2 0xCB 0x5F rfl (fun _ => rfl) rfl
theorem RoundTrip.bit4B : RoundTrip.Statement .bit4B :=
  RoundTrip.byte2 0xCB 0x60 rfl (fun _ => rfl) rfl
theorem RoundTrip.bit4C : RoundTrip.Statement .bit4C :=
  RoundTrip.byte2 0xCB 0x61 rfl (fun _ => rfl) rfl
theorem RoundTrip.bit4D : RoundTrip.Statement .bit4D :=
  RoundTrip.byte2 0xCB 0x62 rfl (fun _ => rfl) rfl
theorem RoundTrip.bit4E : RoundTrip.Statement .bit4E :=
  RoundTrip.byte2 0xCB 0x63 rfl (fun _ => rfl) rfl
theorem RoundTrip.bit4H : RoundTrip.Statement .bit4H :=
  RoundTrip.byte2 0xCB 0x64 rfl (fun _ => rfl) rfl
theorem RoundTrip.bit4L : RoundTrip.Statement .bit4L :=
  RoundTrip.byte2 0xCB 0x65 rfl (fun _ => rfl) rfl
theorem RoundTrip.bit4AtHL : RoundTrip.Statement .bit4AtHL :=
  RoundTrip.byte2 0xCB 0x66 rfl (fun _ => rfl) rfl
theorem RoundTrip.bit4A : RoundTrip.Statement .bit4A :=
  RoundTrip.byte2 0xCB 0x67 rfl (fun _ => rfl) rfl
theorem RoundTrip.bit5B : RoundTrip.Statement .bit5B :=
  RoundTrip.byte2 0xCB 0x68 rfl (fun _ => rfl) rfl
theorem RoundTrip.bit5C : RoundTrip.Statement .bit5C :=
  RoundTrip.byte2 0xCB 0x69 rfl (fun _ => rfl) rfl
theorem RoundTrip.bit5D : RoundTrip.Statement .bit5D :=
  RoundTrip.byte2 0xCB 0x6A rfl (fun _ => rfl) rfl
theorem RoundTrip.bit5E : RoundTrip.Statement .bit5E :=
  RoundTrip.byte2 0xCB 0x6B rfl (fun _ => rfl) rfl
theorem RoundTrip.bit5H : RoundTrip.Statement .bit5H :=
  RoundTrip.byte2 0xCB 0x6C rfl (fun _ => rfl) rfl
theorem RoundTrip.bit5L : RoundTrip.Statement .bit5L :=
  RoundTrip.byte2 0xCB 0x6D rfl (fun _ => rfl) rfl
theorem RoundTrip.bit5AtHL : RoundTrip.Statement .bit5AtHL :=
  RoundTrip.byte2 0xCB 0x6E rfl (fun _ => rfl) rfl
theorem RoundTrip.bit5A : RoundTrip.Statement .bit5A :=
  RoundTrip.byte2 0xCB 0x6F rfl (fun _ => rfl) rfl
theorem RoundTrip.bit6B : RoundTrip.Statement .bit6B :=
  RoundTrip.byte2 0xCB 0x70 rfl (fun _ => rfl) rfl
theorem RoundTrip.bit6C : RoundTrip.Statement .bit6C :=
  RoundTrip.byte2 0xCB 0x71 rfl (fun _ => rfl) rfl
theorem RoundTrip.bit6D : RoundTrip.Statement .bit6D :=
  RoundTrip.byte2 0xCB 0x72 rfl (fun _ => rfl) rfl
theorem RoundTrip.bit6E : RoundTrip.Statement .bit6E :=
  RoundTrip.byte2 0xCB 0x73 rfl (fun _ => rfl) rfl
theorem RoundTrip.bit6H : RoundTrip.Statement .bit6H :=
  RoundTrip.byte2 0xCB 0x74 rfl (fun _ => rfl) rfl
theorem RoundTrip.bit6L : RoundTrip.Statement .bit6L :=
  RoundTrip.byte2 0xCB 0x75 rfl (fun _ => rfl) rfl
theorem RoundTrip.bit6AtHL : RoundTrip.Statement .bit6AtHL :=
  RoundTrip.byte2 0xCB 0x76 rfl (fun _ => rfl) rfl
theorem RoundTrip.bit6A : RoundTrip.Statement .bit6A :=
  RoundTrip.byte2 0xCB 0x77 rfl (fun _ => rfl) rfl
theorem RoundTrip.bit7B : RoundTrip.Statement .bit7B :=
  RoundTrip.byte2 0xCB 0x78 rfl (fun _ => rfl) rfl
theorem RoundTrip.bit7C : RoundTrip.Statement .bit7C :=
  RoundTrip.byte2 0xCB 0x79 rfl (fun _ => rfl) rfl
theorem RoundTrip.bit7D : RoundTrip.Statement .bit7D :=
  RoundTrip.byte2 0xCB 0x7A rfl (fun _ => rfl) rfl
theorem RoundTrip.bit7E : RoundTrip.Statement .bit7E :=
  RoundTrip.byte2 0xCB 0x7B rfl (fun _ => rfl) rfl
theorem RoundTrip.bit7H : RoundTrip.Statement .bit7H :=
  RoundTrip.byte2 0xCB 0x7C rfl (fun _ => rfl) rfl
theorem RoundTrip.bit7L : RoundTrip.Statement .bit7L :=
  RoundTrip.byte2 0xCB 0x7D rfl (fun _ => rfl) rfl
theorem RoundTrip.bit7AtHL : RoundTrip.Statement .bit7AtHL :=
  RoundTrip.byte2 0xCB 0x7E rfl (fun _ => rfl) rfl
theorem RoundTrip.bit7A : RoundTrip.Statement .bit7A :=
  RoundTrip.byte2 0xCB 0x7F rfl (fun _ => rfl) rfl
theorem RoundTrip.res0B : RoundTrip.Statement .res0B :=
  RoundTrip.byte2 0xCB 0x80 rfl (fun _ => rfl) rfl
theorem RoundTrip.res0C : RoundTrip.Statement .res0C :=
  RoundTrip.byte2 0xCB 0x81 rfl (fun _ => rfl) rfl
theorem RoundTrip.res0D : RoundTrip.Statement .res0D :=
  RoundTrip.byte2 0xCB 0x82 rfl (fun _ => rfl) rfl
theorem RoundTrip.res0E : RoundTrip.Statement .res0E :=
  RoundTrip.byte2 0xCB 0x83 rfl (fun _ => rfl) rfl
theorem RoundTrip.res0H : RoundTrip.Statement .res0H :=
  RoundTrip.byte2 0xCB 0x84 rfl (fun _ => rfl) rfl
theorem RoundTrip.res0L : RoundTrip.Statement .res0L :=
  RoundTrip.byte2 0xCB 0x85 rfl (fun _ => rfl) rfl
theorem RoundTrip.res0AtHL : RoundTrip.Statement .res0AtHL :=
  RoundTrip.byte2 0xCB 0x86 rfl (fun _ => rfl) rfl
theorem RoundTrip.res0A : RoundTrip.Statement .res0A :=
  RoundTrip.byte2 0xCB 0x87 rfl (fun _ => rfl) rfl
theorem RoundTrip.res1B : RoundTrip.Statement .res1B :=
  RoundTrip.byte2 0xCB 0x88 rfl (fun _ => rfl) rfl
theorem RoundTrip.res1C : RoundTrip.Statement .res1C :=
  RoundTrip.byte2 0xCB 0x89 rfl (fun _ => rfl) rfl
theorem RoundTrip.res1D : RoundTrip.Statement .res1D :=
  RoundTrip.byte2 0xCB 0x8A rfl (fun _ => rfl) rfl
theorem RoundTrip.res1E : RoundTrip.Statement .res1E :=
  RoundTrip.byte2 0xCB 0x8B rfl (fun _ => rfl) rfl
theorem RoundTrip.res1H : RoundTrip.Statement .res1H :=
  RoundTrip.byte2 0xCB 0x8C rfl (fun _ => rfl) rfl
theorem RoundTrip.res1L : RoundTrip.Statement .res1L :=
  RoundTrip.byte2 0xCB 0x8D rfl (fun _ => rfl) rfl
theorem RoundTrip.res1AtHL : RoundTrip.Statement .res1AtHL :=
  RoundTrip.byte2 0xCB 0x8E rfl (fun _ => rfl) rfl
theorem RoundTrip.res1A : RoundTrip.Statement .res1A :=
  RoundTrip.byte2 0xCB 0x8F rfl (fun _ => rfl) rfl
theorem RoundTrip.res2B : RoundTrip.Statement .res2B :=
  RoundTrip.byte2 0xCB 0x90 rfl (fun _ => rfl) rfl
theorem RoundTrip.res2C : RoundTrip.Statement .res2C :=
  RoundTrip.byte2 0xCB 0x91 rfl (fun _ => rfl) rfl
theorem RoundTrip.res2D : RoundTrip.Statement .res2D :=
  RoundTrip.byte2 0xCB 0x92 rfl (fun _ => rfl) rfl
theorem RoundTrip.res2E : RoundTrip.Statement .res2E :=
  RoundTrip.byte2 0xCB 0x93 rfl (fun _ => rfl) rfl
theorem RoundTrip.res2H : RoundTrip.Statement .res2H :=
  RoundTrip.byte2 0xCB 0x94 rfl (fun _ => rfl) rfl
theorem RoundTrip.res2L : RoundTrip.Statement .res2L :=
  RoundTrip.byte2 0xCB 0x95 rfl (fun _ => rfl) rfl
theorem RoundTrip.res2AtHL : RoundTrip.Statement .res2AtHL :=
  RoundTrip.byte2 0xCB 0x96 rfl (fun _ => rfl) rfl
theorem RoundTrip.res2A : RoundTrip.Statement .res2A :=
  RoundTrip.byte2 0xCB 0x97 rfl (fun _ => rfl) rfl
theorem RoundTrip.res3B : RoundTrip.Statement .res3B :=
  RoundTrip.byte2 0xCB 0x98 rfl (fun _ => rfl) rfl
theorem RoundTrip.res3C : RoundTrip.Statement .res3C :=
  RoundTrip.byte2 0xCB 0x99 rfl (fun _ => rfl) rfl
theorem RoundTrip.res3D : RoundTrip.Statement .res3D :=
  RoundTrip.byte2 0xCB 0x9A rfl (fun _ => rfl) rfl
theorem RoundTrip.res3E : RoundTrip.Statement .res3E :=
  RoundTrip.byte2 0xCB 0x9B rfl (fun _ => rfl) rfl
theorem RoundTrip.res3H : RoundTrip.Statement .res3H :=
  RoundTrip.byte2 0xCB 0x9C rfl (fun _ => rfl) rfl
theorem RoundTrip.res3L : RoundTrip.Statement .res3L :=
  RoundTrip.byte2 0xCB 0x9D rfl (fun _ => rfl) rfl
theorem RoundTrip.res3AtHL : RoundTrip.Statement .res3AtHL :=
  RoundTrip.byte2 0xCB 0x9E rfl (fun _ => rfl) rfl
theorem RoundTrip.res3A : RoundTrip.Statement .res3A :=
  RoundTrip.byte2 0xCB 0x9F rfl (fun _ => rfl) rfl
theorem RoundTrip.res4B : RoundTrip.Statement .res4B :=
  RoundTrip.byte2 0xCB 0xA0 rfl (fun _ => rfl) rfl
theorem RoundTrip.res4C : RoundTrip.Statement .res4C :=
  RoundTrip.byte2 0xCB 0xA1 rfl (fun _ => rfl) rfl
theorem RoundTrip.res4D : RoundTrip.Statement .res4D :=
  RoundTrip.byte2 0xCB 0xA2 rfl (fun _ => rfl) rfl
theorem RoundTrip.res4E : RoundTrip.Statement .res4E :=
  RoundTrip.byte2 0xCB 0xA3 rfl (fun _ => rfl) rfl
theorem RoundTrip.res4H : RoundTrip.Statement .res4H :=
  RoundTrip.byte2 0xCB 0xA4 rfl (fun _ => rfl) rfl
theorem RoundTrip.res4L : RoundTrip.Statement .res4L :=
  RoundTrip.byte2 0xCB 0xA5 rfl (fun _ => rfl) rfl
theorem RoundTrip.res4AtHL : RoundTrip.Statement .res4AtHL :=
  RoundTrip.byte2 0xCB 0xA6 rfl (fun _ => rfl) rfl
theorem RoundTrip.res4A : RoundTrip.Statement .res4A :=
  RoundTrip.byte2 0xCB 0xA7 rfl (fun _ => rfl) rfl
theorem RoundTrip.res5B : RoundTrip.Statement .res5B :=
  RoundTrip.byte2 0xCB 0xA8 rfl (fun _ => rfl) rfl
theorem RoundTrip.res5C : RoundTrip.Statement .res5C :=
  RoundTrip.byte2 0xCB 0xA9 rfl (fun _ => rfl) rfl
theorem RoundTrip.res5D : RoundTrip.Statement .res5D :=
  RoundTrip.byte2 0xCB 0xAA rfl (fun _ => rfl) rfl
theorem RoundTrip.res5E : RoundTrip.Statement .res5E :=
  RoundTrip.byte2 0xCB 0xAB rfl (fun _ => rfl) rfl
theorem RoundTrip.res5H : RoundTrip.Statement .res5H :=
  RoundTrip.byte2 0xCB 0xAC rfl (fun _ => rfl) rfl
theorem RoundTrip.res5L : RoundTrip.Statement .res5L :=
  RoundTrip.byte2 0xCB 0xAD rfl (fun _ => rfl) rfl
theorem RoundTrip.res5AtHL : RoundTrip.Statement .res5AtHL :=
  RoundTrip.byte2 0xCB 0xAE rfl (fun _ => rfl) rfl
theorem RoundTrip.res5A : RoundTrip.Statement .res5A :=
  RoundTrip.byte2 0xCB 0xAF rfl (fun _ => rfl) rfl
theorem RoundTrip.res6B : RoundTrip.Statement .res6B :=
  RoundTrip.byte2 0xCB 0xB0 rfl (fun _ => rfl) rfl
theorem RoundTrip.res6C : RoundTrip.Statement .res6C :=
  RoundTrip.byte2 0xCB 0xB1 rfl (fun _ => rfl) rfl
theorem RoundTrip.res6D : RoundTrip.Statement .res6D :=
  RoundTrip.byte2 0xCB 0xB2 rfl (fun _ => rfl) rfl
theorem RoundTrip.res6E : RoundTrip.Statement .res6E :=
  RoundTrip.byte2 0xCB 0xB3 rfl (fun _ => rfl) rfl
theorem RoundTrip.res6H : RoundTrip.Statement .res6H :=
  RoundTrip.byte2 0xCB 0xB4 rfl (fun _ => rfl) rfl
theorem RoundTrip.res6L : RoundTrip.Statement .res6L :=
  RoundTrip.byte2 0xCB 0xB5 rfl (fun _ => rfl) rfl
theorem RoundTrip.res6AtHL : RoundTrip.Statement .res6AtHL :=
  RoundTrip.byte2 0xCB 0xB6 rfl (fun _ => rfl) rfl
theorem RoundTrip.res6A : RoundTrip.Statement .res6A :=
  RoundTrip.byte2 0xCB 0xB7 rfl (fun _ => rfl) rfl
theorem RoundTrip.res7B : RoundTrip.Statement .res7B :=
  RoundTrip.byte2 0xCB 0xB8 rfl (fun _ => rfl) rfl
theorem RoundTrip.res7C : RoundTrip.Statement .res7C :=
  RoundTrip.byte2 0xCB 0xB9 rfl (fun _ => rfl) rfl
theorem RoundTrip.res7D : RoundTrip.Statement .res7D :=
  RoundTrip.byte2 0xCB 0xBA rfl (fun _ => rfl) rfl
theorem RoundTrip.res7E : RoundTrip.Statement .res7E :=
  RoundTrip.byte2 0xCB 0xBB rfl (fun _ => rfl) rfl
theorem RoundTrip.res7H : RoundTrip.Statement .res7H :=
  RoundTrip.byte2 0xCB 0xBC rfl (fun _ => rfl) rfl
theorem RoundTrip.res7L : RoundTrip.Statement .res7L :=
  RoundTrip.byte2 0xCB 0xBD rfl (fun _ => rfl) rfl
theorem RoundTrip.res7AtHL : RoundTrip.Statement .res7AtHL :=
  RoundTrip.byte2 0xCB 0xBE rfl (fun _ => rfl) rfl
theorem RoundTrip.res7A : RoundTrip.Statement .res7A :=
  RoundTrip.byte2 0xCB 0xBF rfl (fun _ => rfl) rfl
theorem RoundTrip.set0B : RoundTrip.Statement .set0B :=
  RoundTrip.byte2 0xCB 0xC0 rfl (fun _ => rfl) rfl
theorem RoundTrip.set0C : RoundTrip.Statement .set0C :=
  RoundTrip.byte2 0xCB 0xC1 rfl (fun _ => rfl) rfl
theorem RoundTrip.set0D : RoundTrip.Statement .set0D :=
  RoundTrip.byte2 0xCB 0xC2 rfl (fun _ => rfl) rfl
theorem RoundTrip.set0E : RoundTrip.Statement .set0E :=
  RoundTrip.byte2 0xCB 0xC3 rfl (fun _ => rfl) rfl
theorem RoundTrip.set0H : RoundTrip.Statement .set0H :=
  RoundTrip.byte2 0xCB 0xC4 rfl (fun _ => rfl) rfl
theorem RoundTrip.set0L : RoundTrip.Statement .set0L :=
  RoundTrip.byte2 0xCB 0xC5 rfl (fun _ => rfl) rfl
theorem RoundTrip.set0AtHL : RoundTrip.Statement .set0AtHL :=
  RoundTrip.byte2 0xCB 0xC6 rfl (fun _ => rfl) rfl
theorem RoundTrip.set0A : RoundTrip.Statement .set0A :=
  RoundTrip.byte2 0xCB 0xC7 rfl (fun _ => rfl) rfl
theorem RoundTrip.set1B : RoundTrip.Statement .set1B :=
  RoundTrip.byte2 0xCB 0xC8 rfl (fun _ => rfl) rfl
theorem RoundTrip.set1C : RoundTrip.Statement .set1C :=
  RoundTrip.byte2 0xCB 0xC9 rfl (fun _ => rfl) rfl
theorem RoundTrip.set1D : RoundTrip.Statement .set1D :=
  RoundTrip.byte2 0xCB 0xCA rfl (fun _ => rfl) rfl
theorem RoundTrip.set1E : RoundTrip.Statement .set1E :=
  RoundTrip.byte2 0xCB 0xCB rfl (fun _ => rfl) rfl
theorem RoundTrip.set1H : RoundTrip.Statement .set1H :=
  RoundTrip.byte2 0xCB 0xCC rfl (fun _ => rfl) rfl
theorem RoundTrip.set1L : RoundTrip.Statement .set1L :=
  RoundTrip.byte2 0xCB 0xCD rfl (fun _ => rfl) rfl
theorem RoundTrip.set1AtHL : RoundTrip.Statement .set1AtHL :=
  RoundTrip.byte2 0xCB 0xCE rfl (fun _ => rfl) rfl
theorem RoundTrip.set1A : RoundTrip.Statement .set1A :=
  RoundTrip.byte2 0xCB 0xCF rfl (fun _ => rfl) rfl
theorem RoundTrip.set2B : RoundTrip.Statement .set2B :=
  RoundTrip.byte2 0xCB 0xD0 rfl (fun _ => rfl) rfl
theorem RoundTrip.set2C : RoundTrip.Statement .set2C :=
  RoundTrip.byte2 0xCB 0xD1 rfl (fun _ => rfl) rfl
theorem RoundTrip.set2D : RoundTrip.Statement .set2D :=
  RoundTrip.byte2 0xCB 0xD2 rfl (fun _ => rfl) rfl
theorem RoundTrip.set2E : RoundTrip.Statement .set2E :=
  RoundTrip.byte2 0xCB 0xD3 rfl (fun _ => rfl) rfl
theorem RoundTrip.set2H : RoundTrip.Statement .set2H :=
  RoundTrip.byte2 0xCB 0xD4 rfl (fun _ => rfl) rfl
theorem RoundTrip.set2L : RoundTrip.Statement .set2L :=
  RoundTrip.byte2 0xCB 0xD5 rfl (fun _ => rfl) rfl
theorem RoundTrip.set2AtHL : RoundTrip.Statement .set2AtHL :=
  RoundTrip.byte2 0xCB 0xD6 rfl (fun _ => rfl) rfl
theorem RoundTrip.set2A : RoundTrip.Statement .set2A :=
  RoundTrip.byte2 0xCB 0xD7 rfl (fun _ => rfl) rfl
theorem RoundTrip.set3B : RoundTrip.Statement .set3B :=
  RoundTrip.byte2 0xCB 0xD8 rfl (fun _ => rfl) rfl
theorem RoundTrip.set3C : RoundTrip.Statement .set3C :=
  RoundTrip.byte2 0xCB 0xD9 rfl (fun _ => rfl) rfl
theorem RoundTrip.set3D : RoundTrip.Statement .set3D :=
  RoundTrip.byte2 0xCB 0xDA rfl (fun _ => rfl) rfl
theorem RoundTrip.set3E : RoundTrip.Statement .set3E :=
  RoundTrip.byte2 0xCB 0xDB rfl (fun _ => rfl) rfl
theorem RoundTrip.set3H : RoundTrip.Statement .set3H :=
  RoundTrip.byte2 0xCB 0xDC rfl (fun _ => rfl) rfl
theorem RoundTrip.set3L : RoundTrip.Statement .set3L :=
  RoundTrip.byte2 0xCB 0xDD rfl (fun _ => rfl) rfl
theorem RoundTrip.set3AtHL : RoundTrip.Statement .set3AtHL :=
  RoundTrip.byte2 0xCB 0xDE rfl (fun _ => rfl) rfl
theorem RoundTrip.set3A : RoundTrip.Statement .set3A :=
  RoundTrip.byte2 0xCB 0xDF rfl (fun _ => rfl) rfl
theorem RoundTrip.set4B : RoundTrip.Statement .set4B :=
  RoundTrip.byte2 0xCB 0xE0 rfl (fun _ => rfl) rfl
theorem RoundTrip.set4C : RoundTrip.Statement .set4C :=
  RoundTrip.byte2 0xCB 0xE1 rfl (fun _ => rfl) rfl
theorem RoundTrip.set4D : RoundTrip.Statement .set4D :=
  RoundTrip.byte2 0xCB 0xE2 rfl (fun _ => rfl) rfl
theorem RoundTrip.set4E : RoundTrip.Statement .set4E :=
  RoundTrip.byte2 0xCB 0xE3 rfl (fun _ => rfl) rfl
theorem RoundTrip.set4H : RoundTrip.Statement .set4H :=
  RoundTrip.byte2 0xCB 0xE4 rfl (fun _ => rfl) rfl
theorem RoundTrip.set4L : RoundTrip.Statement .set4L :=
  RoundTrip.byte2 0xCB 0xE5 rfl (fun _ => rfl) rfl
theorem RoundTrip.set4AtHL : RoundTrip.Statement .set4AtHL :=
  RoundTrip.byte2 0xCB 0xE6 rfl (fun _ => rfl) rfl
theorem RoundTrip.set4A : RoundTrip.Statement .set4A :=
  RoundTrip.byte2 0xCB 0xE7 rfl (fun _ => rfl) rfl
theorem RoundTrip.set5B : RoundTrip.Statement .set5B :=
  RoundTrip.byte2 0xCB 0xE8 rfl (fun _ => rfl) rfl
theorem RoundTrip.set5C : RoundTrip.Statement .set5C :=
  RoundTrip.byte2 0xCB 0xE9 rfl (fun _ => rfl) rfl
theorem RoundTrip.set5D : RoundTrip.Statement .set5D :=
  RoundTrip.byte2 0xCB 0xEA rfl (fun _ => rfl) rfl
theorem RoundTrip.set5E : RoundTrip.Statement .set5E :=
  RoundTrip.byte2 0xCB 0xEB rfl (fun _ => rfl) rfl
theorem RoundTrip.set5H : RoundTrip.Statement .set5H :=
  RoundTrip.byte2 0xCB 0xEC rfl (fun _ => rfl) rfl
theorem RoundTrip.set5L : RoundTrip.Statement .set5L :=
  RoundTrip.byte2 0xCB 0xED rfl (fun _ => rfl) rfl
theorem RoundTrip.set5AtHL : RoundTrip.Statement .set5AtHL :=
  RoundTrip.byte2 0xCB 0xEE rfl (fun _ => rfl) rfl
theorem RoundTrip.set5A : RoundTrip.Statement .set5A :=
  RoundTrip.byte2 0xCB 0xEF rfl (fun _ => rfl) rfl
theorem RoundTrip.set6B : RoundTrip.Statement .set6B :=
  RoundTrip.byte2 0xCB 0xF0 rfl (fun _ => rfl) rfl
theorem RoundTrip.set6C : RoundTrip.Statement .set6C :=
  RoundTrip.byte2 0xCB 0xF1 rfl (fun _ => rfl) rfl
theorem RoundTrip.set6D : RoundTrip.Statement .set6D :=
  RoundTrip.byte2 0xCB 0xF2 rfl (fun _ => rfl) rfl
theorem RoundTrip.set6E : RoundTrip.Statement .set6E :=
  RoundTrip.byte2 0xCB 0xF3 rfl (fun _ => rfl) rfl
theorem RoundTrip.set6H : RoundTrip.Statement .set6H :=
  RoundTrip.byte2 0xCB 0xF4 rfl (fun _ => rfl) rfl
theorem RoundTrip.set6L : RoundTrip.Statement .set6L :=
  RoundTrip.byte2 0xCB 0xF5 rfl (fun _ => rfl) rfl
theorem RoundTrip.set6AtHL : RoundTrip.Statement .set6AtHL :=
  RoundTrip.byte2 0xCB 0xF6 rfl (fun _ => rfl) rfl
theorem RoundTrip.set6A : RoundTrip.Statement .set6A :=
  RoundTrip.byte2 0xCB 0xF7 rfl (fun _ => rfl) rfl
theorem RoundTrip.set7B : RoundTrip.Statement .set7B :=
  RoundTrip.byte2 0xCB 0xF8 rfl (fun _ => rfl) rfl
theorem RoundTrip.set7C : RoundTrip.Statement .set7C :=
  RoundTrip.byte2 0xCB 0xF9 rfl (fun _ => rfl) rfl
theorem RoundTrip.set7D : RoundTrip.Statement .set7D :=
  RoundTrip.byte2 0xCB 0xFA rfl (fun _ => rfl) rfl
theorem RoundTrip.set7E : RoundTrip.Statement .set7E :=
  RoundTrip.byte2 0xCB 0xFB rfl (fun _ => rfl) rfl
theorem RoundTrip.set7H : RoundTrip.Statement .set7H :=
  RoundTrip.byte2 0xCB 0xFC rfl (fun _ => rfl) rfl
theorem RoundTrip.set7L : RoundTrip.Statement .set7L :=
  RoundTrip.byte2 0xCB 0xFD rfl (fun _ => rfl) rfl
theorem RoundTrip.set7AtHL : RoundTrip.Statement .set7AtHL :=
  RoundTrip.byte2 0xCB 0xFE rfl (fun _ => rfl) rfl
theorem RoundTrip.set7A : RoundTrip.Statement .set7A :=
  RoundTrip.byte2 0xCB 0xFF rfl (fun _ => rfl) rfl

end Sys2Proof.Laws
end

