-- ==== Sys2Proof/Laws/Render.lean ====
section
/-! SUPPORT. Laws of the renderer: its bit operations as the integer values the statements use. -/

namespace Sys2Proof.Machine

/-- A bit of a byte in integers. -/
theorem getLsbD_eq_div (v : Byte) (k : Nat) : v.getLsbD k = decide (v.toNat / 2 ^ k % 2 = 1) := by
  rw [BitVec.getLsbD, Nat.testBit_eq_decide_div_mod_eq]

theorem toNat_ofBool_getLsbD (v : Byte) (k : Nat) : (BitVec.ofBool (v.getLsbD k)).toNat = v.toNat / 2 ^ k % 2 := by
  rw [getLsbD_eq_div]
  rcases Nat.mod_two_eq_zero_or_one (v.toNat / 2 ^ k) with h | h <;> simp [h]

theorem Memory.tilePixel_toNat (m : Memory) (base row col : Nat) :
    (m.tilePixel base row col).toNat = pixelValue m base row col := by
  unfold Memory.tilePixel pixelValue
  rw [BitVec.toNat_append, toNat_ofBool_getLsbD, toNat_ofBool_getLsbD, Nat.shiftLeft_eq, Nat.mul_comm,
    ← Nat.two_pow_add_eq_or_of_lt (i := 1) (by omega)]

theorem Memory.mapPixel_toNat (m : Memory) (map row col : Nat) :
    (m.mapPixel map row col).toNat = mapValue m map row col := by
  unfold Memory.mapPixel mapValue
  rw [Memory.tilePixel_toNat]
  congr 1
  unfold tileBase Memory.io
  rw [show ioLcdc.toNat = 0xFF40 from rfl, getLsbD_eq_div]
  simp only [decide_eq_true_eq, show (2 ^ 4) = 16 from rfl]
  split
  · rfl
  · rw [BitVec.toInt_eq_toNat_cond]
    generalize m.read (map + row / 8 * 32 + col / 8) = t
    have := t.isLt
    split <;> split <;> omega

theorem paletteShade_toNat (pal : Byte) (i : Shade) : (paletteShade pal i).toNat = shadeValue pal.toNat i.toNat := by
  unfold paletteShade shadeValue
  rw [BitVec.toNat_setWidth, BitVec.toNat_ushiftRight, Nat.shiftRight_eq_div_pow, Nat.pow_mul]

theorem Memory.spriteHeight_eq (m : Memory) : m.spriteHeight = heightValue m := by
  unfold Memory.spriteHeight heightValue Memory.io
  rw [getLsbD_eq_div]
  simp only [decide_eq_true_eq]
  rfl

end Sys2Proof.Machine
end

