-- ==== Sys2Proof/Laws/Step.lean ====
section
/-! SUPPORT. What a machine step can do (R204, R232): the three branches of `step`, and what each of them
keeps. Later proofs cite `step_cases` and `step_touch` and do not unfold `step`. -/

namespace Sys2Proof.Machine

/-- The branches of a step. -/
theorem step_cases {s t : State} (h : step s = .next t) :
    (∃ c, s.prelude.stepKind = .wait c ∧ t = s.prelude.finishWait c) ∨
    (∃ i, s.prelude.stepKind = .interrupt i ∧ t = s.prelude.finishInterrupt i) ∨
    (∃ u, s.prelude.stepKind = .execute ∧ exec s.prelude.fetchInstr s.prelude.afterFetch = .next u ∧
      t = s.prelude.finishInstr u) := by
  unfold step at h
  split at h
  · next c hk => exact .inl ⟨c, hk, by cases h; rfl⟩
  · next i hk => exact .inr (.inl ⟨i, hk, by cases h; rfl⟩)
  · next hk =>
    obtain ⟨u, hu, -⟩ := exec_touch s.prelude.fetchInstr s.prelude.afterFetch
    rw [hu] at h
    exact .inr (.inr ⟨u, hk, hu, by cases h; rfl⟩)

/-- A step that executes. -/
theorem step_execute {s u : State} (hk : s.prelude.stepKind = .execute)
    (hu : exec s.prelude.fetchInstr s.prelude.afterFetch = .next u) :
    step s = .next (s.prelude.finishInstr u) := by
  unfold step
  rw [hk]
  simp only [hu]

/-- The prelude changes IME, the pending enable and the run-state only (R204 (a), (c)). -/
theorem State.prelude_eq (s : State) :
    s.prelude = { s with ime := s.prelude.ime, imePending := s.prelude.imePending, run := s.prelude.run } := by
  unfold State.prelude State.wake State.commitAtStart
  split <;> split <;> rfl

/-- The run-state after the prelude is the old one, or Running after Halted. -/
theorem State.prelude_run (s : State) : s.prelude.run = s.run ∨ (s.run = .halted ∧ s.prelude.run = .running) := by
  unfold State.prelude State.wake State.commitAtStart
  split <;> split
  · next h => exact .inr ⟨h.1, rfl⟩
  · exact .inl rfl
  · next h => exact .inr ⟨h.1, rfl⟩
  · exact .inl rfl

/-- The end of an executing step changes IME, the pending enable, the devices and the trace only. -/
theorem State.commitAfter_eq (s t : State) :
    s.commitAfter t = { t with ime := (s.commitAfter t).ime, imePending := (s.commitAfter t).imePending } := by
  unfold State.commitAfter
  split <;> rfl

theorem State.traceStep_eq (s t : State) :
    s.traceStep t = { t with out := { t.out with trace := (s.traceStep t).out.trace } } := by
  unfold State.traceStep
  split <;> rfl

/-- What the CPU's part of a step leaves, before the devices advance: the state they advance from. The
trace is appended after them. -/
theorem step_devices {s t : State} (h : step s = .next t) :
    ∃ u : State, (∃ tr, t = { u.advanceDevices with out := { u.advanceDevices.out with trace := tr } }) ∧
      ((∃ c, s.prelude.stepKind = .wait c ∧ u = s.prelude.cost c) ∨
       (∃ i, s.prelude.stepKind = .interrupt i ∧ u = s.prelude.takeInterrupt i) ∨
       (∃ v, s.prelude.stepKind = .execute ∧ exec s.prelude.fetchInstr s.prelude.afterFetch = .next v ∧
         u = s.prelude.commitAfter v)) := by
  rcases step_cases h with ⟨c, hk, rfl⟩ | ⟨i, hk, rfl⟩ | ⟨v, hk, hv, rfl⟩
  · exact ⟨_, ⟨_, rfl⟩, .inl ⟨c, hk, rfl⟩⟩
  · exact ⟨_, ⟨_, rfl⟩, .inr (.inl ⟨i, hk, rfl⟩)⟩
  · exact ⟨_, ⟨_, State.traceStep_eq _ _⟩, .inr (.inr ⟨v, hk, hv, rfl⟩)⟩

/-- The cost of a waiting step (R204). -/
theorem State.stepKind_wait {s : State} {c : Nat} (h : s.stepKind = .wait c) :
    c = 4 ∧ s.run ≠ .running := by
  unfold State.stepKind at h
  split at h
  · next hr => cases h; exact ⟨rfl, by rw [hr]; decide⟩
  · next hr => cases h; exact ⟨rfl, by rw [hr]; decide⟩
  · next hr => cases h; exact ⟨rfl, by rw [hr]; decide⟩
  · split at h <;> cases h

theorem State.stepKind_interrupt {s : State} {i : Interrupt} (h : s.stepKind = .interrupt i) :
    s.run = .running ∧ s.dispatched = some i := by
  unfold State.stepKind at h
  split at h
  · cases h
  · cases h
  · cases h
  · next hr =>
    split at h
    · next j hj => cases h; exact ⟨hr, hj⟩
    · cases h

theorem State.stepKind_execute {s : State} (h : s.stepKind = .execute) :
    s.run = .running ∧ s.dispatched = none := by
  unfold State.stepKind at h
  split at h
  · cases h
  · cases h
  · cases h
  · next hr =>
    split at h
    · cases h
    · next hj => exact ⟨hr, hj⟩

/-- Taking an interrupt keeps what an instruction keeps (`Touch`), IME and the pending enable apart. -/
theorem State.takeInterrupt_touch (s : State) (i : Interrupt) : Touch true s (s.takeInterrupt i) := by
  have h1 : Touch true s { s with ime := false, imePending := false } :=
    Touch.cpu s.regs false false s.cycles id fun h => absurd h (by decide)
  have h2 : ∀ (u : State) (v : Byte), Touch true u (u.setRaw ioIf v) := fun u v =>
    { boot := rfl, buttons := rfl, cfg := rfl, timer := rfl, ppu := rfl, rom := rfl, kind := rfl, eramSize := rfl,
      totalCycles := rfl, trace := rfl, frames := rfl, overlay := id
      busInv := fun h => ⟨State.setRaw_memoriesOk h.1 _ _, h.2⟩
      lowF := id, run := .inl rfl, pending := fun h => absurd h (by decide) }
  exact ((h1.trans (h2 _ (s.raw ioIf &&& ~~~ bitMask i.bit))).trans
    ((Touch.push16 _ _).trans (.setPc _ _))).trans (.cost _ _)

/-- What the CPU's part of a step keeps, whatever its branch, and its cost: with `step_devices`, everything
a step keeps. -/
theorem step_touch {s u : State}
    (h : (∃ c, s.prelude.stepKind = .wait c ∧ u = s.prelude.cost c) ∨
      (∃ i, s.prelude.stepKind = .interrupt i ∧ u = s.prelude.takeInterrupt i) ∨
      (∃ v, s.prelude.stepKind = .execute ∧ exec s.prelude.fetchInstr s.prelude.afterFetch = .next v ∧
        u = s.prelude.commitAfter v)) :
    Touch true s.prelude u ∧ u.cycles ∈ stepCosts := by
  rcases h with ⟨c, hk, rfl⟩ | ⟨i, hk, rfl⟩ | ⟨v, hk, hv, rfl⟩
  · obtain ⟨rfl, -⟩ := State.stepKind_wait hk
    exact ⟨.cost _ _, List.mem_cons_self ..⟩
  · exact ⟨State.takeInterrupt_touch _ _, (by decide : (20 : Nat) ∈ stepCosts)⟩
  · obtain ⟨ht, hc⟩ := touch_of_exec hv
    have hv : Touch true s.prelude.afterFetch v := { ht with pending := fun h => absurd h (by decide) }
    have hw : Touch true v (s.prelude.commitAfter v) := by
      rw [State.commitAfter_eq]
      exact Touch.cpu v.regs _ _ v.cycles id fun h => absurd h (by decide)
    refine ⟨((Touch.setPc _ _).trans hv).trans hw, ?_⟩
    rw [State.commitAfter_eq]
    exact hc

/-- The entry (R210) in one equation: two bus writes on the state with the request cleared, SP 2 lower, PC
at the vector, IME and the pending enable cleared, the cost of the service step. -/
theorem State.takeInterrupt_eq (s : State) (i : Interrupt) :
    s.takeInterrupt i =
      { (((s.setRaw ioIf (s.raw ioIf &&& ~~~ bitMask i.bit)).busWrite (s.regs.sp - 1) (hiByte s.regs.pc)).busWrite
          (s.regs.sp - 2) (loByte s.regs.pc)) with
        regs := { s.regs with sp := s.regs.sp - 2, pc := i.vector }
        ime := false
        imePending := false
        cycles := 20 } := by
  have h1 := (s.setRaw ioIf (s.raw ioIf &&& ~~~ bitMask i.bit)).busWrite_withCpu s.regs false false s.run s.cycles
    (s.regs.sp - 1) (hiByte s.regs.pc)
  have h2 := ((s.setRaw ioIf (s.raw ioIf &&& ~~~ bitMask i.bit)).busWrite (s.regs.sp - 1)
    (hiByte s.regs.pc)).busWrite_withCpu s.regs false false s.run s.cycles (s.regs.sp - 2) (loByte s.regs.pc)
  unfold State.takeInterrupt
  simp only [State.push16_eq]
  show (((State.busWrite ((State.withCpu (s.setRaw ioIf _) s.regs false false s.run s.cycles).busWrite
    (s.regs.sp - 1) (hiByte s.regs.pc)) (s.regs.sp - 2) (loByte s.regs.pc)).setSp (s.regs.sp - 2)).setPc
      i.vector).cost cIrq = _
  rw [h1, h2]
  simp only [State.withCpu, State.setSp, State.setPc, State.cost, cIrq, State.mk.injEq, true_and, and_true]
  simp

end Sys2Proof.Machine
end

