-- ==== Sys2Proof/Tests/Slice0.lean ====
section
/-! SUPPORT. Tests. The words of the decode tests are those of opcode_table.json (R80, R81); the one-step
tests named after a vector take their values from 95_test_vectors.md; the witnesses meet the hypotheses of
the statements. -/

namespace Sys2Proof.Tests

open Sys2Proof.Machine

/-- Memory cells, code bytes at PC (in ROM), and registers; the rest as at reset. -/
def put (mem : List Host.Cell) (code : List Byte) (g : Regs) : State :=
  { State.reset with
    regs := g
    mem := Memory.ofCells mem
    cart := { State.reset.cart with
      rom := ⟨0x8000, Memory.ofCells (code.zipIdx.map fun p => (g.pc.toNat + p.2, p.1))⟩ } }

/-- What one step leaves. -/
def after (s : State) (p : State → Bool) : Bool :=
  match step s with
  | .next t => p t
  | _ => false

/-- Every pair is a byte sequence and the instruction it decodes to. -/
def decodes (l : List (List Byte × Instr)) : Bool := l.all fun p => decode p.1 == .ok p.2


/-! WellFormed. -/

theorem test_bare_prefix_is_ill_formed : Instr.prefixCB.wellFormed = false := by decide
theorem test_other_terms_are_well_formed :
    ([.nop, .ldAN8 0xCB, .rlcB, .illegalD3, .stop 0xCB] : List Instr).all Instr.wellFormed = true := by decide

/-! Decode: every row of the opcode table, 16 rows a theorem, operands 0x5A or 0xA55A. -/

theorem test_decode_base_0x : decodes [
    ([0x00], .nop), ([0x01, 0x5A, 0xA5], .ldBCN16 0xA55A), ([0x02], .ldAtBCA), ([0x03], .incBC),
    ([0x04], .incB), ([0x05], .decB), ([0x06, 0x5A], .ldBN8 0x5A), ([0x07], .rlca),
    ([0x08, 0x5A, 0xA5], .ldAtA16SP 0xA55A), ([0x09], .addHLBC), ([0x0A], .ldAAtBC), ([0x0B], .decBC),
    ([0x0C], .incC), ([0x0D], .decC), ([0x0E, 0x5A], .ldCN8 0x5A), ([0x0F], .rrca)] = true := by decide

theorem test_decode_base_1x : decodes [
    ([0x10, 0x5A], .stop 0x5A), ([0x11, 0x5A, 0xA5], .ldDEN16 0xA55A), ([0x12], .ldAtDEA), ([0x13], .incDE),
    ([0x14], .incD), ([0x15], .decD), ([0x16, 0x5A], .ldDN8 0x5A), ([0x17], .rla), ([0x18, 0x5A], .jrE8 0x5A),
    ([0x19], .addHLDE), ([0x1A], .ldAAtDE), ([0x1B], .decDE), ([0x1C], .incE), ([0x1D], .decE),
    ([0x1E, 0x5A], .ldEN8 0x5A), ([0x1F], .rra)] = true := by decide

theorem test_decode_base_2x : decodes [
    ([0x20, 0x5A], .jrNZE8 0x5A), ([0x21, 0x5A, 0xA5], .ldHLN16 0xA55A), ([0x22], .ldAtHLIA), ([0x23], .incHL),
    ([0x24], .incH), ([0x25], .decH), ([0x26, 0x5A], .ldHN8 0x5A), ([0x27], .daa), ([0x28, 0x5A], .jrZE8 0x5A),
    ([0x29], .addHLHL), ([0x2A], .ldAAtHLI), ([0x2B], .decHL), ([0x2C], .incL), ([0x2D], .decL),
    ([0x2E, 0x5A], .ldLN8 0x5A), ([0x2F], .cpl)] = true := by decide

theorem test_decode_base_3x : decodes [
    ([0x30, 0x5A], .jrNCE8 0x5A), ([0x31, 0x5A, 0xA5], .ldSPN16 0xA55A), ([0x32], .ldAtHLDA), ([0x33], .incSP),
    ([0x34], .incAtHL), ([0x35], .decAtHL), ([0x36, 0x5A], .ldAtHLN8 0x5A), ([0x37], .scf),
    ([0x38, 0x5A], .jrCE8 0x5A), ([0x39], .addHLSP), ([0x3A], .ldAAtHLD), ([0x3B], .decSP), ([0x3C], .incA),
    ([0x3D], .decA), ([0x3E, 0x5A], .ldAN8 0x5A), ([0x3F], .ccf)] = true := by decide

theorem test_decode_base_4x : decodes [
    ([0x40], .ldBB), ([0x41], .ldBC), ([0x42], .ldBD), ([0x43], .ldBE), ([0x44], .ldBH), ([0x45], .ldBL),
    ([0x46], .ldBAtHL), ([0x47], .ldBA), ([0x48], .ldCB), ([0x49], .ldCC), ([0x4A], .ldCD), ([0x4B], .ldCE),
    ([0x4C], .ldCH), ([0x4D], .ldCL), ([0x4E], .ldCAtHL), ([0x4F], .ldCA)] = true := by decide

theorem test_decode_base_5x : decodes [
    ([0x50], .ldDB), ([0x51], .ldDC), ([0x52], .ldDD), ([0x53], .ldDE), ([0x54], .ldDH), ([0x55], .ldDL),
    ([0x56], .ldDAtHL), ([0x57], .ldDA), ([0x58], .ldEB), ([0x59], .ldEC), ([0x5A], .ldED), ([0x5B], .ldEE),
    ([0x5C], .ldEH), ([0x5D], .ldEL), ([0x5E], .ldEAtHL), ([0x5F], .ldEA)] = true := by decide

theorem test_decode_base_6x : decodes [
    ([0x60], .ldHB), ([0x61], .ldHC), ([0x62], .ldHD), ([0x63], .ldHE), ([0x64], .ldHH), ([0x65], .ldHL),
    ([0x66], .ldHAtHL), ([0x67], .ldHA), ([0x68], .ldLB), ([0x69], .ldLC), ([0x6A], .ldLD), ([0x6B], .ldLE),
    ([0x6C], .ldLH), ([0x6D], .ldLL), ([0x6E], .ldLAtHL), ([0x6F], .ldLA)] = true := by decide

theorem test_decode_base_7x : decodes [
    ([0x70], .ldAtHLB), ([0x71], .ldAtHLC), ([0x72], .ldAtHLD), ([0x73], .ldAtHLE), ([0x74], .ldAtHLH),
    ([0x75], .ldAtHLL), ([0x76], .halt), ([0x77], .ldAtHLA), ([0x78], .ldAB), ([0x79], .ldAC), ([0x7A], .ldAD),
    ([0x7B], .ldAE), ([0x7C], .ldAH), ([0x7D], .ldAL), ([0x7E], .ldAAtHL), ([0x7F], .ldAA)] = true := by decide

theorem test_decode_base_8x : decodes [
    ([0x80], .addAB), ([0x81], .addAC), ([0x82], .addAD), ([0x83], .addAE), ([0x84], .addAH), ([0x85], .addAL),
    ([0x86], .addAAtHL), ([0x87], .addAA), ([0x88], .adcAB), ([0x89], .adcAC), ([0x8A], .adcAD),
    ([0x8B], .adcAE), ([0x8C], .adcAH), ([0x8D], .adcAL), ([0x8E], .adcAAtHL), ([0x8F], .adcAA)] = true := by decide

theorem test_decode_base_9x : decodes [
    ([0x90], .subB), ([0x91], .subC), ([0x92], .subD), ([0x93], .subE), ([0x94], .subH), ([0x95], .subL),
    ([0x96], .subAtHL), ([0x97], .subA), ([0x98], .sbcAB), ([0x99], .sbcAC), ([0x9A], .sbcAD),
    ([0x9B], .sbcAE), ([0x9C], .sbcAH), ([0x9D], .sbcAL), ([0x9E], .sbcAAtHL), ([0x9F], .sbcAA)] = true := by decide

theorem test_decode_base_Ax : decodes [
    ([0xA0], .andB), ([0xA1], .andC), ([0xA2], .andD), ([0xA3], .andE), ([0xA4], .andH), ([0xA5], .andL),
    ([0xA6], .andAtHL), ([0xA7], .andA), ([0xA8], .xorB), ([0xA9], .xorC), ([0xAA], .xorD), ([0xAB], .xorE),
    ([0xAC], .xorH), ([0xAD], .xorL), ([0xAE], .xorAtHL), ([0xAF], .xorA)] = true := by decide

theorem test_decode_base_Bx : decodes [
    ([0xB0], .orB), ([0xB1], .orC), ([0xB2], .orD), ([0xB3], .orE), ([0xB4], .orH), ([0xB5], .orL),
    ([0xB6], .orAtHL), ([0xB7], .orA), ([0xB8], .cpB), ([0xB9], .cpC), ([0xBA], .cpD), ([0xBB], .cpE),
    ([0xBC], .cpH), ([0xBD], .cpL), ([0xBE], .cpAtHL), ([0xBF], .cpA)] = true := by decide

theorem test_decode_base_Cx : decodes [
    ([0xC0], .retNZ), ([0xC1], .popBC), ([0xC2, 0x5A, 0xA5], .jpNZA16 0xA55A),
    ([0xC3, 0x5A, 0xA5], .jpA16 0xA55A), ([0xC4, 0x5A, 0xA5], .callNZA16 0xA55A), ([0xC5], .pushBC),
    ([0xC6, 0x5A], .addAN8 0x5A), ([0xC7], .rst00), ([0xC8], .retZ), ([0xC9], .ret),
    ([0xCA, 0x5A, 0xA5], .jpZA16 0xA55A), ([0xCB], .prefixCB), ([0xCC, 0x5A, 0xA5], .callZA16 0xA55A),
    ([0xCD, 0x5A, 0xA5], .callA16 0xA55A), ([0xCE, 0x5A], .adcAN8 0x5A), ([0xCF], .rst08)] = true := by decide

theorem test_decode_base_Dx : decodes [
    ([0xD0], .retNC), ([0xD1], .popDE), ([0xD2, 0x5A, 0xA5], .jpNCA16 0xA55A), ([0xD3], .illegalD3),
    ([0xD4, 0x5A, 0xA5], .callNCA16 0xA55A), ([0xD5], .pushDE), ([0xD6, 0x5A], .subN8 0x5A), ([0xD7], .rst10),
    ([0xD8], .retC), ([0xD9], .reti), ([0xDA, 0x5A, 0xA5], .jpCA16 0xA55A), ([0xDB], .illegalDB),
    ([0xDC, 0x5A, 0xA5], .callCA16 0xA55A), ([0xDD], .illegalDD), ([0xDE, 0x5A], .sbcAN8 0x5A),
    ([0xDF], .rst18)] = true := by decide

theorem test_decode_base_Ex : decodes [
    ([0xE0, 0x5A], .ldhAtA8A 0x5A), ([0xE1], .popHL), ([0xE2], .ldAtCA), ([0xE3], .illegalE3),
    ([0xE4], .illegalE4), ([0xE5], .pushHL), ([0xE6, 0x5A], .andN8 0x5A), ([0xE7], .rst20),
    ([0xE8, 0x5A], .addSPE8 0x5A), ([0xE9], .jpHL), ([0xEA, 0x5A, 0xA5], .ldAtA16A 0xA55A),
    ([0xEB], .illegalEB), ([0xEC], .illegalEC), ([0xED], .illegalED), ([0xEE, 0x5A], .xorN8 0x5A),
    ([0xEF], .rst28)] = true := by decide

theorem test_decode_base_Fx : decodes [
    ([0xF0, 0x5A], .ldhAAtA8 0x5A), ([0xF1], .popAF), ([0xF2], .ldAAtC), ([0xF3], .di), ([0xF4], .illegalF4),
    ([0xF5], .pushAF), ([0xF6, 0x5A], .orN8 0x5A), ([0xF7], .rst30), ([0xF8, 0x5A], .ldHLSPE8 0x5A),
    ([0xF9], .ldSPHL), ([0xFA, 0x5A, 0xA5], .ldAAtA16 0xA55A), ([0xFB], .ei), ([0xFC], .illegalFC),
    ([0xFD], .illegalFD), ([0xFE, 0x5A], .cpN8 0x5A), ([0xFF], .rst38)] = true := by decide

theorem test_decode_cb_0x : decodes [
    ([0xCB, 0x00], .rlcB), ([0xCB, 0x01], .rlcC), ([0xCB, 0x02], .rlcD), ([0xCB, 0x03], .rlcE),
    ([0xCB, 0x04], .rlcH), ([0xCB, 0x05], .rlcL), ([0xCB, 0x06], .rlcAtHL), ([0xCB, 0x07], .rlcA),
    ([0xCB, 0x08], .rrcB), ([0xCB, 0x09], .rrcC), ([0xCB, 0x0A], .rrcD), ([0xCB, 0x0B], .rrcE),
    ([0xCB, 0x0C], .rrcH), ([0xCB, 0x0D], .rrcL), ([0xCB, 0x0E], .rrcAtHL), ([0xCB, 0x0F], .rrcA)] = true := by decide

theorem test_decode_cb_1x : decodes [
    ([0xCB, 0x10], .rlB), ([0xCB, 0x11], .rlC), ([0xCB, 0x12], .rlD), ([0xCB, 0x13], .rlE),
    ([0xCB, 0x14], .rlH), ([0xCB, 0x15], .rlL), ([0xCB, 0x16], .rlAtHL), ([0xCB, 0x17], .rlA),
    ([0xCB, 0x18], .rrB), ([0xCB, 0x19], .rrC), ([0xCB, 0x1A], .rrD), ([0xCB, 0x1B], .rrE),
    ([0xCB, 0x1C], .rrH), ([0xCB, 0x1D], .rrL), ([0xCB, 0x1E], .rrAtHL), ([0xCB, 0x1F], .rrA)] = true := by decide

theorem test_decode_cb_2x : decodes [
    ([0xCB, 0x20], .slaB), ([0xCB, 0x21], .slaC), ([0xCB, 0x22], .slaD), ([0xCB, 0x23], .slaE),
    ([0xCB, 0x24], .slaH), ([0xCB, 0x25], .slaL), ([0xCB, 0x26], .slaAtHL), ([0xCB, 0x27], .slaA),
    ([0xCB, 0x28], .sraB), ([0xCB, 0x29], .sraC), ([0xCB, 0x2A], .sraD), ([0xCB, 0x2B], .sraE),
    ([0xCB, 0x2C], .sraH), ([0xCB, 0x2D], .sraL), ([0xCB, 0x2E], .sraAtHL), ([0xCB, 0x2F], .sraA)] = true := by decide

theorem test_decode_cb_3x : decodes [
    ([0xCB, 0x30], .swapB), ([0xCB, 0x31], .swapC), ([0xCB, 0x32], .swapD), ([0xCB, 0x33], .swapE),
    ([0xCB, 0x34], .swapH), ([0xCB, 0x35], .swapL), ([0xCB, 0x36], .swapAtHL), ([0xCB, 0x37], .swapA),
    ([0xCB, 0x38], .srlB), ([0xCB, 0x39], .srlC), ([0xCB, 0x3A], .srlD), ([0xCB, 0x3B], .srlE),
    ([0xCB, 0x3C], .srlH), ([0xCB, 0x3D], .srlL), ([0xCB, 0x3E], .srlAtHL), ([0xCB, 0x3F], .srlA)] = true := by decide

theorem test_decode_cb_4x : decodes [
    ([0xCB, 0x40], .bit0B), ([0xCB, 0x41], .bit0C), ([0xCB, 0x42], .bit0D), ([0xCB, 0x43], .bit0E),
    ([0xCB, 0x44], .bit0H), ([0xCB, 0x45], .bit0L), ([0xCB, 0x46], .bit0AtHL), ([0xCB, 0x47], .bit0A),
    ([0xCB, 0x48], .bit1B), ([0xCB, 0x49], .bit1C), ([0xCB, 0x4A], .bit1D), ([0xCB, 0x4B], .bit1E),
    ([0xCB, 0x4C], .bit1H), ([0xCB, 0x4D], .bit1L), ([0xCB, 0x4E], .bit1AtHL), ([0xCB, 0x4F], .bit1A)] = true := by decide

theorem test_decode_cb_5x : decodes [
    ([0xCB, 0x50], .bit2B), ([0xCB, 0x51], .bit2C), ([0xCB, 0x52], .bit2D), ([0xCB, 0x53], .bit2E),
    ([0xCB, 0x54], .bit2H), ([0xCB, 0x55], .bit2L), ([0xCB, 0x56], .bit2AtHL), ([0xCB, 0x57], .bit2A),
    ([0xCB, 0x58], .bit3B), ([0xCB, 0x59], .bit3C), ([0xCB, 0x5A], .bit3D), ([0xCB, 0x5B], .bit3E),
    ([0xCB, 0x5C], .bit3H), ([0xCB, 0x5D], .bit3L), ([0xCB, 0x5E], .bit3AtHL), ([0xCB, 0x5F], .bit3A)] = true := by decide

theorem test_decode_cb_6x : decodes [
    ([0xCB, 0x60], .bit4B), ([0xCB, 0x61], .bit4C), ([0xCB, 0x62], .bit4D), ([0xCB, 0x63], .bit4E),
    ([0xCB, 0x64], .bit4H), ([0xCB, 0x65], .bit4L), ([0xCB, 0x66], .bit4AtHL), ([0xCB, 0x67], .bit4A),
    ([0xCB, 0x68], .bit5B), ([0xCB, 0x69], .bit5C), ([0xCB, 0x6A], .bit5D), ([0xCB, 0x6B], .bit5E),
    ([0xCB, 0x6C], .bit5H), ([0xCB, 0x6D], .bit5L), ([0xCB, 0x6E], .bit5AtHL), ([0xCB, 0x6F], .bit5A)] = true := by decide

theorem test_decode_cb_7x : decodes [
    ([0xCB, 0x70], .bit6B), ([0xCB, 0x71], .bit6C), ([0xCB, 0x72], .bit6D), ([0xCB, 0x73], .bit6E),
    ([0xCB, 0x74], .bit6H), ([0xCB, 0x75], .bit6L), ([0xCB, 0x76], .bit6AtHL), ([0xCB, 0x77], .bit6A),
    ([0xCB, 0x78], .bit7B), ([0xCB, 0x79], .bit7C), ([0xCB, 0x7A], .bit7D), ([0xCB, 0x7B], .bit7E),
    ([0xCB, 0x7C], .bit7H), ([0xCB, 0x7D], .bit7L), ([0xCB, 0x7E], .bit7AtHL), ([0xCB, 0x7F], .bit7A)] = true := by decide

theorem test_decode_cb_8x : decodes [
    ([0xCB, 0x80], .res0B), ([0xCB, 0x81], .res0C), ([0xCB, 0x82], .res0D), ([0xCB, 0x83], .res0E),
    ([0xCB, 0x84], .res0H), ([0xCB, 0x85], .res0L), ([0xCB, 0x86], .res0AtHL), ([0xCB, 0x87], .res0A),
    ([0xCB, 0x88], .res1B), ([0xCB, 0x89], .res1C), ([0xCB, 0x8A], .res1D), ([0xCB, 0x8B], .res1E),
    ([0xCB, 0x8C], .res1H), ([0xCB, 0x8D], .res1L), ([0xCB, 0x8E], .res1AtHL), ([0xCB, 0x8F], .res1A)] = true := by decide

theorem test_decode_cb_9x : decodes [
    ([0xCB, 0x90], .res2B), ([0xCB, 0x91], .res2C), ([0xCB, 0x92], .res2D), ([0xCB, 0x93], .res2E),
    ([0xCB, 0x94], .res2H), ([0xCB, 0x95], .res2L), ([0xCB, 0x96], .res2AtHL), ([0xCB, 0x97], .res2A),
    ([0xCB, 0x98], .res3B), ([0xCB, 0x99], .res3C), ([0xCB, 0x9A], .res3D), ([0xCB, 0x9B], .res3E),
    ([0xCB, 0x9C], .res3H), ([0xCB, 0x9D], .res3L), ([0xCB, 0x9E], .res3AtHL), ([0xCB, 0x9F], .res3A)] = true := by decide

theorem test_decode_cb_Ax : decodes [
    ([0xCB, 0xA0], .res4B), ([0xCB, 0xA1], .res4C), ([0xCB, 0xA2], .res4D), ([0xCB, 0xA3], .res4E),
    ([0xCB, 0xA4], .res4H), ([0xCB, 0xA5], .res4L), ([0xCB, 0xA6], .res4AtHL), ([0xCB, 0xA7], .res4A),
    ([0xCB, 0xA8], .res5B), ([0xCB, 0xA9], .res5C), ([0xCB, 0xAA], .res5D), ([0xCB, 0xAB], .res5E),
    ([0xCB, 0xAC], .res5H), ([0xCB, 0xAD], .res5L), ([0xCB, 0xAE], .res5AtHL), ([0xCB, 0xAF], .res5A)] = true := by decide

theorem test_decode_cb_Bx : decodes [
    ([0xCB, 0xB0], .res6B), ([0xCB, 0xB1], .res6C), ([0xCB, 0xB2], .res6D), ([0xCB, 0xB3], .res6E),
    ([0xCB, 0xB4], .res6H), ([0xCB, 0xB5], .res6L), ([0xCB, 0xB6], .res6AtHL), ([0xCB, 0xB7], .res6A),
    ([0xCB, 0xB8], .res7B), ([0xCB, 0xB9], .res7C), ([0xCB, 0xBA], .res7D), ([0xCB, 0xBB], .res7E),
    ([0xCB, 0xBC], .res7H), ([0xCB, 0xBD], .res7L), ([0xCB, 0xBE], .res7AtHL), ([0xCB, 0xBF], .res7A)] = true := by decide

theorem test_decode_cb_Cx : decodes [
    ([0xCB, 0xC0], .set0B), ([0xCB, 0xC1], .set0C), ([0xCB, 0xC2], .set0D), ([0xCB, 0xC3], .set0E),
    ([0xCB, 0xC4], .set0H), ([0xCB, 0xC5], .set0L), ([0xCB, 0xC6], .set0AtHL), ([0xCB, 0xC7], .set0A),
    ([0xCB, 0xC8], .set1B), ([0xCB, 0xC9], .set1C), ([0xCB, 0xCA], .set1D), ([0xCB, 0xCB], .set1E),
    ([0xCB, 0xCC], .set1H), ([0xCB, 0xCD], .set1L), ([0xCB, 0xCE], .set1AtHL), ([0xCB, 0xCF], .set1A)] = true := by decide

theorem test_decode_cb_Dx : decodes [
    ([0xCB, 0xD0], .set2B), ([0xCB, 0xD1], .set2C), ([0xCB, 0xD2], .set2D), ([0xCB, 0xD3], .set2E),
    ([0xCB, 0xD4], .set2H), ([0xCB, 0xD5], .set2L), ([0xCB, 0xD6], .set2AtHL), ([0xCB, 0xD7], .set2A),
    ([0xCB, 0xD8], .set3B), ([0xCB, 0xD9], .set3C), ([0xCB, 0xDA], .set3D), ([0xCB, 0xDB], .set3E),
    ([0xCB, 0xDC], .set3H), ([0xCB, 0xDD], .set3L), ([0xCB, 0xDE], .set3AtHL), ([0xCB, 0xDF], .set3A)] = true := by decide

theorem test_decode_cb_Ex : decodes [
    ([0xCB, 0xE0], .set4B), ([0xCB, 0xE1], .set4C), ([0xCB, 0xE2], .set4D), ([0xCB, 0xE3], .set4E),
    ([0xCB, 0xE4], .set4H), ([0xCB, 0xE5], .set4L), ([0xCB, 0xE6], .set4AtHL), ([0xCB, 0xE7], .set4A),
    ([0xCB, 0xE8], .set5B), ([0xCB, 0xE9], .set5C), ([0xCB, 0xEA], .set5D), ([0xCB, 0xEB], .set5E),
    ([0xCB, 0xEC], .set5H), ([0xCB, 0xED], .set5L), ([0xCB, 0xEE], .set5AtHL), ([0xCB, 0xEF], .set5A)] = true := by decide

theorem test_decode_cb_Fx : decodes [
    ([0xCB, 0xF0], .set6B), ([0xCB, 0xF1], .set6C), ([0xCB, 0xF2], .set6D), ([0xCB, 0xF3], .set6E),
    ([0xCB, 0xF4], .set6H), ([0xCB, 0xF5], .set6L), ([0xCB, 0xF6], .set6AtHL), ([0xCB, 0xF7], .set6A),
    ([0xCB, 0xF8], .set7B), ([0xCB, 0xF9], .set7C), ([0xCB, 0xFA], .set7D), ([0xCB, 0xFB], .set7E),
    ([0xCB, 0xFC], .set7H), ([0xCB, 0xFD], .set7L), ([0xCB, 0xFE], .set7AtHL), ([0xCB, 0xFF], .set7A)] = true := by decide

theorem test_truncated_is_refused :
    decode [] = .error .noByte ∧ decode [0x01, 0x5A] = .error (.truncated 0x01) ∧
      decode [0x3E] = .error (.truncated 0x3E) := by decide

/-! The table's words, and the step that runs them. -/

theorem test_table_words :
    decodeTableWord 8 0x41 = some .ldBC ∧ decodeTableWord 8 0x01 = some (.ldBCN16 0) ∧
      decodeTableWord 16 0xCB37 = some .swapA ∧ decodeTableWord 8 0xCB = some .prefixCB ∧
      decodeTableWord 8 0xFD = some .illegalFD := by decide
theorem test_fetch_word_runs :
    after (State.reset.withFetchWord 16 0xCB37) (fun t => t.regs.a == 0x10 && t.regs.pc == 0x0102 && t.cycles == 8) =
      true := by decide
theorem test_fetch_word_runs_when_halted :
    after ({ State.reset with run := .halted }.withFetchWord 8 0x3C) (fun t => t.regs.a == 0x02) = true := by decide

/-! 8-bit loads (95_test_vectors.md V40). -/

theorem test_V40_1 : -- V40-1, R86
    after (put [] [0x47] { Regs.resetNoBoot with a := 0x5A, b := 0x00, f := 0xB0 })
      (fun t => t.cycles == 4 && t.regs.b == 0x5A && t.regs.a == 0x5A && t.regs.f == 0xB0 &&
        t.regs.pc == 0x0101) = true := by decide

theorem test_V40_2 : -- V40-2, R86
    after (put [] [0x7F] { Regs.resetNoBoot with a := 0x77, f := 0x00 })
      (fun t => t.cycles == 4 && t.regs.a == 0x77 && t.regs.f == 0x00 && t.regs.pc == 0x0101) = true := by decide

theorem test_V40_3 : -- V40-3, R87
    after (put [] [0x1E, 0xFF] { Regs.resetNoBoot with f := 0x00 })
      (fun t => t.cycles == 8 && t.regs.e == 0xFF && t.regs.f == 0x00 && t.regs.pc == 0x0102) = true := by decide

theorem test_V40_4 : -- V40-4, R88
    after (put [(0xC000, 0x9C)] [0x4E] { Regs.resetNoBoot with h := 0xC0, l := 0x00 })
      (fun t => t.cycles == 8 && t.regs.c == 0x9C) = true := by decide

theorem test_V40_5 : -- V40-5, R88
    after (put [(0xC010, 0x12)] [0x66] { Regs.resetNoBoot with h := 0xC0, l := 0x10 })
      (fun t => t.cycles == 8 && t.regs.h == 0x12 && t.regs.l == 0x10) = true := by decide

theorem test_V40_6 : -- V40-6, R89
    after (put [] [0x75] { Regs.resetNoBoot with h := 0xC0, l := 0x34 })
      (fun t => t.cycles == 8 && t.raw 0xC034 == 0x34) = true := by decide

theorem test_V40_7 : -- V40-7, R89
    after (put [] [0x74] { Regs.resetNoBoot with h := 0xC0, l := 0x34 })
      (fun t => t.cycles == 8 && t.raw 0xC034 == 0xC0) = true := by decide

theorem test_V40_8 : -- V40-8, R90
    after (put [] [0x36, 0x3C] { Regs.resetNoBoot with h := 0xC1, l := 0x00 })
      (fun t => t.cycles == 12 && t.regs.pc == 0x0102 && t.raw 0xC100 == 0x3C) = true := by decide

theorem test_V40_9 : -- V40-9, R91
    after (put [(0xC200, 0x42)] [0x0A] { Regs.resetNoBoot with b := 0xC2, c := 0x00 })
      (fun t => t.cycles == 8 && t.regs.a == 0x42) = true := by decide

theorem test_V40_10 : -- V40-10, R92
    after (put [(0xFF80, 0x99)] [0x1A] { Regs.resetNoBoot with d := 0xFF, e := 0x80 })
      (fun t => t.cycles == 8 && t.regs.a == 0x99) = true := by decide

theorem test_V40_11 : -- V40-11, R93
    after (put [] [0x02] { Regs.resetNoBoot with a := 0xAB, b := 0xC3, c := 0x00 })
      (fun t => t.cycles == 8 && t.raw 0xC300 == 0xAB) = true := by decide

theorem test_V40_12 : -- V40-12, R94
    after (put [] [0x12] { Regs.resetNoBoot with a := 0xCD, d := 0xC3, e := 0x01 })
      (fun t => t.cycles == 8 && t.raw 0xC301 == 0xCD) = true := by decide

theorem test_V40_13 : -- V40-13, R95
    after (put [] [0xFA, 0x47, 0x01] { Regs.resetNoBoot with a := 0x11 })
      (fun t => t.cycles == 16 && t.regs.a == 0x00 && t.regs.pc == 0x0103) = true := by decide

theorem test_V40_14 : -- V40-14, R96
    after (put [] [0xEA, 0x23, 0xC1] { Regs.resetNoBoot with a := 0x5E })
      (fun t => t.cycles == 16 && t.regs.pc == 0x0103 && t.raw 0xC123 == 0x5E) = true := by decide

theorem test_V40_15 : -- V40-15, R96
    after (put [] [0xEA, 0x00, 0x20] { Regs.resetNoBoot with a := 0x5E })
      (fun t => t.cycles == 16 && t.busRead 0x2000 == 0x00) = true := by decide

theorem test_V40_16 : -- V40-16, R97
    after (put [(0xFF80, 0x7F)] [0xF0, 0x80] { Regs.resetNoBoot with a := 0x00 })
      (fun t => t.cycles == 12 && t.regs.a == 0x7F && t.regs.pc == 0x0102) = true := by decide

theorem test_V40_17 : -- V40-17, R98
    after (put [] [0xE0, 0x81] { Regs.resetNoBoot with a := 0x66 })
      (fun t => t.cycles == 12 && t.raw 0xFF81 == 0x66) = true := by decide

theorem test_V40_18 : -- V40-18, R99
    after (put [(0xFF85, 0x21)] [0xF2] { Regs.resetNoBoot with c := 0x85 })
      (fun t => t.cycles == 8 && t.regs.a == 0x21) = true := by decide

theorem test_V40_19 : -- V40-19, R100
    after (put [] [0xE2] { Regs.resetNoBoot with a := 0x22, c := 0x86 })
      (fun t => t.cycles == 8 && t.raw 0xFF86 == 0x22) = true := by decide

theorem test_V40_20 : -- V40-20, R101
    after (put [] [0x22] { Regs.resetNoBoot with a := 0x01, h := 0xC0, l := 0xFF })
      (fun t => t.cycles == 8 && t.regs.get16 .hl == 0xC100 && t.raw 0xC0FF == 0x01) = true := by decide

theorem test_V40_21 : -- V40-21, R101
    after (put [] [0x22] { Regs.resetNoBoot with a := 0x01, h := 0xFF, l := 0xFF })
      (fun t => t.cycles == 8 && t.regs.get16 .hl == 0x0000 && t.raw 0xFFFF == 0x01) = true := by decide

theorem test_V40_22 : -- V40-22, R102
    after (put [] [0x32] { Regs.resetNoBoot with a := 0x02, h := 0xC0, l := 0x00 })
      (fun t => t.cycles == 8 && t.regs.get16 .hl == 0xBFFF && t.raw 0xC000 == 0x02) = true := by decide

theorem test_V40_23 : -- V40-23, R103
    after (put [(0xC010, 0x10)] [0x2A] { Regs.resetNoBoot with h := 0xC0, l := 0x10 })
      (fun t => t.cycles == 8 && t.regs.a == 0x10 && t.regs.get16 .hl == 0xC011) = true := by decide

theorem test_V40_24 : -- V40-24, R104
    after (put [] [0x3A] { Regs.resetNoBoot with h := 0x00, l := 0x00 })
      (fun t => t.cycles == 8 && t.regs.a == 0x00 && t.regs.get16 .hl == 0xFFFF) = true := by decide

theorem test_V40_25 : -- V40-25, R97
    after (put [] [0xF0, 0x00] { Regs.resetNoBoot with a := 0x00 })
      (fun t => t.cycles == 12 && t.regs.a == 0xCF) = true := by decide

theorem test_V40_26 : -- V40-26, R98
    after (put [] [0xE0, 0x00] { Regs.resetNoBoot with a := 0x20 })
      (fun t => t.cycles == 12 && t.busRead 0xFF00 == 0xEF) = true := by decide

/-! 16-bit loads and the stack (V41). -/

theorem test_V41_1 : -- V41-1, R105
    after (put [] [0x01, 0x34, 0x12] Regs.resetNoBoot)
      (fun t => t.cycles == 12 && t.regs.b == 0x12 && t.regs.c == 0x34 && t.regs.pc == 0x0103) = true := by decide

theorem test_V41_2 : -- V41-2, R105
    after (put [] [0x31, 0xFF, 0xDF] Regs.resetNoBoot)
      (fun t => t.cycles == 12 && t.regs.sp == 0xDFFF) = true := by decide

theorem test_V41_3 : -- V41-3, R106
    after (put [] [0x08, 0x00, 0xC0] { Regs.resetNoBoot with sp := 0xABCD })
      (fun t => t.cycles == 20 && t.regs.pc == 0x0103 && t.raw 0xC000 == 0xCD &&
        t.raw 0xC001 == 0xAB) = true := by decide

theorem test_V41_4 : -- V41-4, R106
    after (put [] [0x08, 0xFF, 0xFF] { Regs.resetNoBoot with sp := 0x1234 })
      (fun t => t.cycles == 20 && t.raw 0xFFFF == 0x34 && t.raw 0x0000 == 0x00 &&
        t.busRead 0x0000 == 0x00) = true := by decide

theorem test_V41_5 : -- V41-5, R107
    after (put [] [0xF9] { Regs.resetNoBoot with h := 0xC8, l := 0x00 })
      (fun t => t.cycles == 8 && t.regs.sp == 0xC800) = true := by decide

theorem test_V41_6 : -- V41-6, R108
    after (put [] [0xF8, 0x01] { Regs.resetNoBoot with sp := 0x00FF, f := 0xF0 })
      (fun t => t.cycles == 12 && t.regs.f == 0x30 && t.regs.get16 .hl == 0x0100) = true := by decide

theorem test_V41_7 : -- V41-7, R108
    after (put [] [0xF8, 0xFF] { Regs.resetNoBoot with sp := 0x0000, f := 0x00 })
      (fun t => t.cycles == 12 && t.regs.f == 0x00 && t.regs.get16 .hl == 0xFFFF) = true := by decide

theorem test_V41_9 : -- V41-9, R109
    after (put [] [0xD5] { Regs.resetNoBoot with sp := 0xFFFE, d := 0xBE, e := 0xEF })
      (fun t => t.cycles == 16 && t.regs.sp == 0xFFFC && t.raw 0xFFFD == 0xBE &&
        t.raw 0xFFFC == 0xEF) = true := by decide

theorem test_V41_10 : -- V41-10, R110
    after (put [] [0xF5] { Regs.resetNoBoot with sp := 0xE000, a := 0x12, f := 0xF0 })
      (fun t => t.cycles == 16 && t.regs.sp == 0xDFFE && t.raw 0xDFFF == 0x12 &&
        t.raw 0xDFFE == 0xF0) = true := by decide

theorem test_V41_11 : -- V41-11, R111
    after (put [(0xFFFC, 0x34), (0xFFFD, 0x12)] [0xE1] { Regs.resetNoBoot with sp := 0xFFFC })
      (fun t => t.cycles == 12 && t.regs.get16 .hl == 0x1234 && t.regs.sp == 0xFFFE) = true := by decide

theorem test_V41_12 : -- V41-12, R112
    after (put [(0xC000, 0xFF), (0xC001, 0x80)] [0xF1] { Regs.resetNoBoot with sp := 0xC000 })
      (fun t => t.cycles == 12 && t.regs.a == 0x80 && t.regs.f == 0xF0 && t.regs.sp == 0xC002) = true := by decide

theorem test_V41_13 : -- V41-13, R111
    after (put [(0xFFFF, 0x11)] [0xC1] { Regs.resetNoBoot with sp := 0xFFFF })
      (fun t => t.cycles == 12 && t.regs.get16 .bc == 0x0011 && t.regs.sp == 0x0001) = true := by decide

theorem test_V41_14 : -- V41-14, R109
    after (put [] [0xC5] { Regs.resetNoBoot with sp := 0x0000, b := 0x55, c := 0x66 })
      (fun t => t.cycles == 16 && t.regs.sp == 0xFFFE && t.raw 0xFFFF == 0x55 &&
        t.raw 0xFFFE == 0x66) = true := by decide

/-! 8-bit arithmetic and logic (V42). -/

theorem test_V42_1 : -- V42-1, R114
    after (put [] [0x80] { Regs.resetNoBoot with a := 0x3A, b := 0xC6, f := 0x00 })
      (fun t => t.cycles == 4 && t.regs.a == 0x00 && t.regs.f == 0xB0) = true := by decide

theorem test_V42_2 : -- V42-2, R114
    after (put [] [0x80] { Regs.resetNoBoot with a := 0x0F, b := 0x01, f := 0x00 })
      (fun t => t.cycles == 4 && t.regs.a == 0x10 && t.regs.f == 0x20) = true := by decide

theorem test_V42_3 : -- V42-3, R114
    after (put [] [0x87] { Regs.resetNoBoot with a := 0x80, f := 0x00 })
      (fun t => t.cycles == 4 && t.regs.a == 0x00 && t.regs.f == 0x90) = true := by decide

theorem test_V42_4 : -- V42-4, R115
    after (put [(0xC000, 0x34)] [0x86] { Regs.resetNoBoot with a := 0x12, h := 0xC0, l := 0x00, f := 0x00 })
      (fun t => t.cycles == 8 && t.regs.a == 0x46 && t.regs.f == 0x00) = true := by decide

theorem test_V42_5 : -- V42-5, R116
    after (put [] [0xC6, 0xFF] { Regs.resetNoBoot with a := 0x01, f := 0x00 })
      (fun t => t.cycles == 8 && t.regs.a == 0x00 && t.regs.f == 0xB0) = true := by decide

theorem test_V42_6 : -- V42-6, R117
    after (put [] [0x89] { Regs.resetNoBoot with a := 0xE1, c := 0x0F, f := 0x10 })
      (fun t => t.cycles == 4 && t.regs.a == 0xF1 && t.regs.f == 0x20) = true := by decide

theorem test_V42_7 : -- V42-7, R117
    after (put [] [0x89] { Regs.resetNoBoot with a := 0x0F, c := 0x00, f := 0x10 })
      (fun t => t.cycles == 4 && t.regs.a == 0x10 && t.regs.f == 0x20) = true := by decide

theorem test_V42_8 : -- V42-8, R119
    after (put [] [0xCE, 0xFF] { Regs.resetNoBoot with a := 0x00, f := 0x10 })
      (fun t => t.cycles == 8 && t.regs.a == 0x00 && t.regs.f == 0xB0) = true := by decide

theorem test_V42_9 : -- V42-9, R118
    after (put [(0xC000, 0x1E)] [0x8E] { Regs.resetNoBoot with a := 0xE1, h := 0xC0, l := 0x00, f := 0x10 })
      (fun t => t.cycles == 8 && t.regs.a == 0x00 && t.regs.f == 0xB0) = true := by decide

theorem test_V42_10 : -- V42-10, R120
    after (put [] [0x93] { Regs.resetNoBoot with a := 0x3E, e := 0x3E, f := 0x00 })
      (fun t => t.cycles == 4 && t.regs.a == 0x00 && t.regs.f == 0xC0) = true := by decide

theorem test_V42_11 : -- V42-11, R120
    after (put [] [0x93] { Regs.resetNoBoot with a := 0x3E, e := 0x0F, f := 0x00 })
      (fun t => t.cycles == 4 && t.regs.a == 0x2F && t.regs.f == 0x60) = true := by decide

theorem test_V42_12 : -- V42-12, R122
    after (put [] [0xD6, 0x40] { Regs.resetNoBoot with a := 0x3E, f := 0x00 })
      (fun t => t.cycles == 8 && t.regs.a == 0xFE && t.regs.f == 0x50) = true := by decide

theorem test_V42_13 : -- V42-13, R121
    after (put [(0xC000, 0x01)] [0x96] { Regs.resetNoBoot with a := 0x00, h := 0xC0, l := 0x00, f := 0x00 })
      (fun t => t.cycles == 8 && t.regs.a == 0xFF && t.regs.f == 0x70) = true := by decide

theorem test_V42_14 : -- V42-14, R123
    after (put [] [0x9C] { Regs.resetNoBoot with a := 0x3B, h := 0x2A, f := 0x10 })
      (fun t => t.cycles == 4 && t.regs.a == 0x10 && t.regs.f == 0x40) = true := by decide

theorem test_V42_15 : -- V42-15, R125
    after (put [] [0xDE, 0x00] { Regs.resetNoBoot with a := 0x00, f := 0x10 })
      (fun t => t.cycles == 8 && t.regs.a == 0xFF && t.regs.f == 0x70) = true := by decide

theorem test_V42_16 : -- V42-16, R124
    after (put [(0xC000, 0x4F)] [0x9E] { Regs.resetNoBoot with a := 0x3B, h := 0xC0, l := 0x00, f := 0x10 })
      (fun t => t.cycles == 8 && t.regs.a == 0xEB && t.regs.f == 0x70) = true := by decide

theorem test_V42_17 : -- V42-17, R123
    after (put [] [0x9F] { Regs.resetNoBoot with a := 0x55, f := 0x10 })
      (fun t => t.cycles == 4 && t.regs.a == 0xFF && t.regs.f == 0x70) = true := by decide

theorem test_V42_18 : -- V42-18, R126
    after (put [] [0xA5] { Regs.resetNoBoot with a := 0x5A, l := 0x3F, f := 0x10 })
      (fun t => t.cycles == 4 && t.regs.a == 0x1A && t.regs.f == 0x20) = true := by decide

theorem test_V42_19 : -- V42-19, R128
    after (put [] [0xE6, 0x00] { Regs.resetNoBoot with a := 0xFF, f := 0x00 })
      (fun t => t.cycles == 8 && t.regs.a == 0x00 && t.regs.f == 0xA0) = true := by decide

theorem test_V42_20 : -- V42-20, R127
    after (put [(0xC000, 0x38)] [0xA6] { Regs.resetNoBoot with a := 0x5A, h := 0xC0, l := 0x00, f := 0x00 })
      (fun t => t.cycles == 8 && t.regs.a == 0x18 && t.regs.f == 0x20) = true := by decide

theorem test_V42_21 : -- V42-21, R129
    after (put [] [0xAF] { Regs.resetNoBoot with a := 0x9C, f := 0x70 })
      (fun t => t.cycles == 4 && t.regs.a == 0x00 && t.regs.f == 0x80) = true := by decide

theorem test_V42_22 : -- V42-22, R131
    after (put [] [0xEE, 0x0F] { Regs.resetNoBoot with a := 0xFF, f := 0x00 })
      (fun t => t.cycles == 8 && t.regs.a == 0xF0 && t.regs.f == 0x00) = true := by decide

theorem test_V42_23 : -- V42-23, R130
    after (put [(0xC000, 0x8A)] [0xAE] { Regs.resetNoBoot with a := 0xFF, h := 0xC0, l := 0x00, f := 0x00 })
      (fun t => t.cycles == 8 && t.regs.a == 0x75 && t.regs.f == 0x00) = true := by decide

theorem test_V42_24 : -- V42-24, R132
    after (put [] [0xB2] { Regs.resetNoBoot with a := 0x5A, d := 0x00, f := 0xF0 })
      (fun t => t.cycles == 4 && t.regs.a == 0x5A && t.regs.f == 0x00) = true := by decide

theorem test_V42_25 : -- V42-25, R134
    after (put [] [0xF6, 0x03] { Regs.resetNoBoot with a := 0x00, f := 0x00 })
      (fun t => t.cycles == 8 && t.regs.a == 0x03 && t.regs.f == 0x00) = true := by decide

theorem test_V42_26 : -- V42-26, R133
    after (put [(0xC000, 0x00)] [0xB6] { Regs.resetNoBoot with a := 0x00, h := 0xC0, l := 0x00, f := 0x00 })
      (fun t => t.cycles == 8 && t.regs.a == 0x00 && t.regs.f == 0x80) = true := by decide

theorem test_V42_27 : -- V42-27, R135
    after (put [] [0xB8] { Regs.resetNoBoot with a := 0x3C, b := 0x2F, f := 0x00 })
      (fun t => t.cycles == 4 && t.regs.a == 0x3C && t.regs.f == 0x60) = true := by decide

theorem test_V42_28 : -- V42-28, R137
    after (put [] [0xFE, 0x3C] { Regs.resetNoBoot with a := 0x3C, f := 0x00 })
      (fun t => t.cycles == 8 && t.regs.a == 0x3C && t.regs.f == 0xC0) = true := by decide

theorem test_V42_29 : -- V42-29, R136
    after (put [(0xC000, 0x40)] [0xBE] { Regs.resetNoBoot with a := 0x3C, h := 0xC0, l := 0x00, f := 0x00 })
      (fun t => t.cycles == 8 && t.regs.a == 0x3C && t.regs.f == 0x50) = true := by decide

theorem test_V42_30 : -- V42-30, R138
    after (put [] [0x3C] { Regs.resetNoBoot with a := 0xFF, f := 0x10 })
      (fun t => t.cycles == 4 && t.regs.a == 0x00 && t.regs.f == 0xB0) = true := by decide

theorem test_V42_31 : -- V42-31, R138
    after (put [] [0x04] { Regs.resetNoBoot with b := 0x0F, f := 0x00 })
      (fun t => t.cycles == 4 && t.regs.b == 0x10 && t.regs.f == 0x20) = true := by decide

theorem test_V42_32 : -- V42-32, R139
    after (put [(0xC000, 0x50)] [0x34] { Regs.resetNoBoot with h := 0xC0, l := 0x00, f := 0x00 })
      (fun t => t.cycles == 12 && t.regs.f == 0x00 && t.raw 0xC000 == 0x51) = true := by decide

theorem test_V42_33 : -- V42-33, R140
    after (put [] [0x0D] { Regs.resetNoBoot with c := 0x01, f := 0x00 })
      (fun t => t.cycles == 4 && t.regs.c == 0x00 && t.regs.f == 0xC0) = true := by decide

theorem test_V42_34 : -- V42-34, R140
    after (put [] [0x0D] { Regs.resetNoBoot with c := 0x00, f := 0x10 })
      (fun t => t.cycles == 4 && t.regs.c == 0xFF && t.regs.f == 0x70) = true := by decide

theorem test_V42_35 : -- V42-35, R141
    after (put [(0xC000, 0x10)] [0x35] { Regs.resetNoBoot with h := 0xC0, l := 0x00, f := 0x00 })
      (fun t => t.cycles == 12 && t.regs.f == 0x60 && t.raw 0xC000 == 0x0F) = true := by decide

/-! 16-bit arithmetic (V43). -/

theorem test_V43_1 : -- V43-1, R143
    after (put [] [0x09] { Regs.resetNoBoot with h := 0x8A, l := 0x23, b := 0x06, c := 0x05, f := 0x00 })
      (fun t => t.cycles == 8 && t.regs.f == 0x20 && t.regs.get16 .hl == 0x9028) = true := by decide

theorem test_V43_2 : -- V43-2, R143
    after (put [] [0x29] { Regs.resetNoBoot with h := 0x8A, l := 0x23, f := 0x80 })
      (fun t => t.cycles == 8 && t.regs.f == 0xB0 && t.regs.get16 .hl == 0x1446) = true := by decide

theorem test_V43_3 : -- V43-3, R143
    after (put [] [0x39] { Regs.resetNoBoot with h := 0xFF, l := 0xFF, sp := 0x0001, f := 0x00 })
      (fun t => t.cycles == 8 && t.regs.f == 0x30 && t.regs.get16 .hl == 0x0000) = true := by decide

theorem test_V43_4 : -- V43-4, R143
    after (put [] [0x19] { Regs.resetNoBoot with h := 0x00, l := 0xFF, d := 0x00, e := 0x01, f := 0x00 })
      (fun t => t.cycles == 8 && t.regs.f == 0x00 && t.regs.get16 .hl == 0x0100) = true := by decide

theorem test_V43_5 : -- V43-5, R144
    after (put [] [0x03] { Regs.resetNoBoot with b := 0xFF, c := 0xFF, f := 0x00 })
      (fun t => t.cycles == 8 && t.regs.f == 0x00 && t.regs.get16 .bc == 0x0000) = true := by decide

theorem test_V43_6 : -- V43-6, R144
    after (put [] [0x33] { Regs.resetNoBoot with sp := 0xFFFF })
      (fun t => t.cycles == 8 && t.regs.sp == 0x0000) = true := by decide

theorem test_V43_7 : -- V43-7, R145
    after (put [] [0x1B] { Regs.resetNoBoot with d := 0x00, e := 0x00, f := 0xF0 })
      (fun t => t.cycles == 8 && t.regs.f == 0xF0 && t.regs.get16 .de == 0xFFFF) = true := by decide

theorem test_V43_8 : -- V43-8, R147
    after (put [] [0xE8, 0x02] { Regs.resetNoBoot with sp := 0xFFF8, f := 0xF0 })
      (fun t => t.cycles == 16 && t.regs.f == 0x00 && t.regs.sp == 0xFFFA) = true := by decide

theorem test_V43_9 : -- V43-9, R147
    after (put [] [0xE8, 0xFF] { Regs.resetNoBoot with sp := 0x0000, f := 0x00 })
      (fun t => t.cycles == 16 && t.regs.f == 0x00 && t.regs.sp == 0xFFFF) = true := by decide

/-! Rotates and shifts (V44). -/

theorem test_V44_1 : -- V44-1, R149
    after (put [] [0x07] { Regs.resetNoBoot with a := 0x85, f := 0x00 })
      (fun t => t.cycles == 4 && t.regs.a == 0x0B && t.regs.f == 0x10) = true := by decide

theorem test_V44_2 : -- V44-2, R149
    after (put [] [0x07] { Regs.resetNoBoot with a := 0x00, f := 0x80 })
      (fun t => t.cycles == 4 && t.regs.a == 0x00 && t.regs.f == 0x00) = true := by decide

theorem test_V44_3 : -- V44-3, R150
    after (put [] [0x0F] { Regs.resetNoBoot with a := 0x3B, f := 0x00 })
      (fun t => t.cycles == 4 && t.regs.a == 0x9D && t.regs.f == 0x10) = true := by decide

theorem test_V44_4 : -- V44-4, R151
    after (put [] [0x17] { Regs.resetNoBoot with a := 0x95, f := 0x10 })
      (fun t => t.cycles == 4 && t.regs.a == 0x2B && t.regs.f == 0x10) = true := by decide

theorem test_V44_5 : -- V44-5, R152
    after (put [] [0x1F] { Regs.resetNoBoot with a := 0x81, f := 0x00 })
      (fun t => t.cycles == 4 && t.regs.a == 0x40 && t.regs.f == 0x10) = true := by decide

theorem test_V44_6 : -- V44-6, R154
    after (put [] [0xCB, 0x00] { Regs.resetNoBoot with b := 0x00, f := 0x00 })
      (fun t => t.cycles == 8 && t.regs.b == 0x00 && t.regs.f == 0x80) = true := by decide

theorem test_V44_7 : -- V44-7, R154
    after (put [] [0xCB, 0x07] { Regs.resetNoBoot with a := 0x85, f := 0x00 })
      (fun t => t.cycles == 8 && t.regs.a == 0x0B && t.regs.f == 0x10) = true := by decide

theorem test_V44_8 : -- V44-8, R155
    after (put [(0xC000, 0x80)] [0xCB, 0x06] { Regs.resetNoBoot with h := 0xC0, l := 0x00, f := 0x00 })
      (fun t => t.cycles == 16 && t.regs.f == 0x10 && t.raw 0xC000 == 0x01) = true := by decide

theorem test_V44_9 : -- V44-9, R156
    after (put [] [0xCB, 0x09] { Regs.resetNoBoot with c := 0x01, f := 0x00 })
      (fun t => t.cycles == 8 && t.regs.c == 0x80 && t.regs.f == 0x10) = true := by decide

theorem test_V44_10 : -- V44-10, R157
    after (put [(0xC000, 0x00)] [0xCB, 0x0E] { Regs.resetNoBoot with h := 0xC0, l := 0x00, f := 0x00 })
      (fun t => t.cycles == 16 && t.regs.f == 0x80 && t.raw 0xC000 == 0x00) = true := by decide

theorem test_V44_11 : -- V44-11, R158
    after (put [] [0xCB, 0x12] { Regs.resetNoBoot with d := 0x80, f := 0x00 })
      (fun t => t.cycles == 8 && t.regs.d == 0x00 && t.regs.f == 0x90) = true := by decide

theorem test_V44_12 : -- V44-12, R159
    after (put [(0xC000, 0x11)] [0xCB, 0x16] { Regs.resetNoBoot with h := 0xC0, l := 0x00, f := 0x10 })
      (fun t => t.cycles == 16 && t.regs.f == 0x00 && t.raw 0xC000 == 0x23) = true := by decide

theorem test_V44_13 : -- V44-13, R160
    after (put [] [0xCB, 0x1B] { Regs.resetNoBoot with e := 0x01, f := 0x00 })
      (fun t => t.cycles == 8 && t.regs.e == 0x00 && t.regs.f == 0x90) = true := by decide

theorem test_V44_14 : -- V44-14, R161
    after (put [(0xC000, 0x8A)] [0xCB, 0x1E] { Regs.resetNoBoot with h := 0xC0, l := 0x00, f := 0x10 })
      (fun t => t.cycles == 16 && t.regs.f == 0x00 && t.raw 0xC000 == 0xC5) = true := by decide

theorem test_V44_15 : -- V44-15, R162
    after (put [] [0xCB, 0x24] { Regs.resetNoBoot with h := 0xFF, f := 0x00 })
      (fun t => t.cycles == 8 && t.regs.h == 0xFE && t.regs.f == 0x10) = true := by decide

theorem test_V44_16 : -- V44-16, R163
    after (put [(0xC000, 0x80)] [0xCB, 0x26] { Regs.resetNoBoot with h := 0xC0, l := 0x00, f := 0x00 })
      (fun t => t.cycles == 16 && t.regs.f == 0x90 && t.raw 0xC000 == 0x00) = true := by decide

theorem test_V44_17 : -- V44-17, R164
    after (put [] [0xCB, 0x2D] { Regs.resetNoBoot with l := 0x8A, f := 0x00 })
      (fun t => t.cycles == 8 && t.regs.l == 0xC5 && t.regs.f == 0x00) = true := by decide

theorem test_V44_18 : -- V44-18, R165
    after (put [(0xC000, 0x01)] [0xCB, 0x2E] { Regs.resetNoBoot with h := 0xC0, l := 0x00, f := 0x00 })
      (fun t => t.cycles == 16 && t.regs.f == 0x90 && t.raw 0xC000 == 0x00) = true := by decide

theorem test_V44_19 : -- V44-19, R166
    after (put [] [0xCB, 0x37] { Regs.resetNoBoot with a := 0x00, f := 0x70 })
      (fun t => t.cycles == 8 && t.regs.a == 0x00 && t.regs.f == 0x80) = true := by decide

theorem test_V44_20 : -- V44-20, R167
    after (put [(0xC000, 0xF0)] [0xCB, 0x36] { Regs.resetNoBoot with h := 0xC0, l := 0x00, f := 0x10 })
      (fun t => t.cycles == 16 && t.regs.f == 0x00 && t.raw 0xC000 == 0x0F) = true := by decide

theorem test_V44_21 : -- V44-21, R168
    after (put [] [0xCB, 0x3F] { Regs.resetNoBoot with a := 0x01, f := 0x00 })
      (fun t => t.cycles == 8 && t.regs.a == 0x00 && t.regs.f == 0x90) = true := by decide

theorem test_V44_22 : -- V44-22, R169
    after (put [(0xC000, 0xFF)] [0xCB, 0x3E] { Regs.resetNoBoot with h := 0xC0, l := 0x00, f := 0x00 })
      (fun t => t.cycles == 16 && t.regs.f == 0x10 && t.raw 0xC000 == 0x7F) = true := by decide

/-! Bit operations (V45). -/

theorem test_V45_1 : -- V45-1, R170
    after (put [] [0xCB, 0x7C] { Regs.resetNoBoot with h := 0x7F, f := 0x10 })
      (fun t => t.cycles == 8 && t.regs.h == 0x7F && t.regs.f == 0xB0) = true := by decide

theorem test_V45_2 : -- V45-2, R170
    after (put [] [0xCB, 0x47] { Regs.resetNoBoot with a := 0x01, f := 0xC0 })
      (fun t => t.cycles == 8 && t.regs.f == 0x20) = true := by decide

theorem test_V45_3 : -- V45-3, R171
    after (put [(0xC000, 0x08)] [0xCB, 0x5E] { Regs.resetNoBoot with h := 0xC0, l := 0x00, f := 0x00 })
      (fun t => t.cycles == 12 && t.regs.f == 0x20 && t.raw 0xC000 == 0x08) = true := by decide

theorem test_V45_4 : -- V45-4, R172
    after (put [] [0xCB, 0xBF] { Regs.resetNoBoot with a := 0xFF, f := 0xF0 })
      (fun t => t.cycles == 8 && t.regs.a == 0x7F && t.regs.f == 0xF0) = true := by decide

theorem test_V45_5 : -- V45-5, R173
    after (put [(0xC000, 0x01)] [0xCB, 0x86] { Regs.resetNoBoot with h := 0xC0, l := 0x00 })
      (fun t => t.cycles == 16 && t.raw 0xC000 == 0x00) = true := by decide

theorem test_V45_6 : -- V45-6, R174
    after (put [] [0xCB, 0xD8] { Regs.resetNoBoot with b := 0x00, f := 0x00 })
      (fun t => t.cycles == 8 && t.regs.b == 0x08 && t.regs.f == 0x00) = true := by decide

theorem test_V45_7 : -- V45-7, R175
    after (put [(0xC000, 0x01)] [0xCB, 0xFE] { Regs.resetNoBoot with h := 0xC0, l := 0x00 })
      (fun t => t.cycles == 16 && t.raw 0xC000 == 0x81) = true := by decide

theorem test_V45_8 : -- V45-8, R175
    after (put [] [0xCB, 0xC6] { Regs.resetNoBoot with h := 0x20, l := 0x00 })
      (fun t => t.cycles == 16 && t.busRead 0x2000 == 0x00) = true := by decide

/-! Control flow (V46). -/

theorem test_V46_1 : -- V46-1, R177
    after (put [] [0xC3, 0x50, 0x01] Regs.resetNoBoot)
      (fun t => t.cycles == 16 && t.regs.pc == 0x0150) = true := by decide

theorem test_V46_2 : -- V46-2, R178
    after (put [] [0xCA, 0x00, 0x02] { Regs.resetNoBoot with f := 0x00 })
      (fun t => t.cycles == 12 && t.regs.pc == 0x0103) = true := by decide

theorem test_V46_3 : -- V46-3, R178
    after (put [] [0xDA, 0x00, 0x02] { Regs.resetNoBoot with f := 0x10 })
      (fun t => t.cycles == 16 && t.regs.pc == 0x0200) = true := by decide

theorem test_V46_4 : -- V46-4, R179
    after (put [] [0xE9] { Regs.resetNoBoot with h := 0xC0, l := 0x00 })
      (fun t => t.cycles == 4 && t.regs.pc == 0xC000) = true := by decide

theorem test_V46_5 : -- V46-5, R180
    after (put [] [0x18, 0x03] Regs.resetNoBoot)
      (fun t => t.cycles == 12 && t.regs.pc == 0x0105) = true := by decide

theorem test_V46_6 : -- V46-6, R180
    after (put [] [0x18, 0xFE] Regs.resetNoBoot)
      (fun t => t.cycles == 12 && t.regs.pc == 0x0100) = true := by decide

theorem test_V46_7 : -- V46-7, R181
    after (put [] [0x20, 0xFC] { Regs.resetNoBoot with pc := 0x0105, f := 0x00 })
      (fun t => t.cycles == 12 && t.regs.pc == 0x0103) = true := by decide

theorem test_V46_8 : -- V46-8, R181
    after (put [] [0x20, 0xFC] { Regs.resetNoBoot with pc := 0x0105, f := 0x80 })
      (fun t => t.cycles == 8 && t.regs.pc == 0x0107) = true := by decide

theorem test_V46_9 : -- V46-9, R181
    after (put [] [0x30, 0x7F] { Regs.resetNoBoot with f := 0x00 })
      (fun t => t.cycles == 12 && t.regs.pc == 0x0181) = true := by decide

theorem test_V46_10 : -- V46-10, R182
    after (put [] [0xCD, 0x00, 0x02] { Regs.resetNoBoot with pc := 0x0150, sp := 0xFFFE })
      (fun t => t.cycles == 24 && t.regs.pc == 0x0200 && t.regs.sp == 0xFFFC && t.raw 0xFFFD == 0x01 &&
        t.raw 0xFFFC == 0x53) = true := by decide

theorem test_V46_11 : -- V46-11, R183
    after (put [] [0xD4, 0x00, 0x02] { Regs.resetNoBoot with pc := 0x0150, sp := 0xFFFE, f := 0x10 })
      (fun t => t.cycles == 12 && t.regs.pc == 0x0153 && t.regs.sp == 0xFFFE) = true := by decide

theorem test_V46_12 : -- V46-12, R183
    after (put [] [0xCC, 0x00, 0x02] { Regs.resetNoBoot with pc := 0x0150, sp := 0xFFFE, f := 0x80 })
      (fun t => t.cycles == 24 && t.regs.pc == 0x0200 && t.regs.sp == 0xFFFC) = true := by decide

theorem test_V46_13 : -- V46-13, R184
    after (put [(0xFFFC, 0x53), (0xFFFD, 0x01)] [0xC9] { Regs.resetNoBoot with sp := 0xFFFC })
      (fun t => t.cycles == 16 && t.regs.pc == 0x0153 && t.regs.sp == 0xFFFE) = true := by decide

theorem test_V46_14 : -- V46-14, R185
    after (put [(0xFFFC, 0x53), (0xFFFD, 0x01)] [0xC8] { Regs.resetNoBoot with sp := 0xFFFC, f := 0x80 })
      (fun t => t.cycles == 20 && t.regs.pc == 0x0153 && t.regs.sp == 0xFFFE) = true := by decide

theorem test_V46_15 : -- V46-15, R185
    after (put [(0xFFFC, 0x53), (0xFFFD, 0x01)] [0xC0] { Regs.resetNoBoot with sp := 0xFFFC, f := 0x80 })
      (fun t => t.cycles == 8 && t.regs.pc == 0x0101 && t.regs.sp == 0xFFFC) = true := by decide

theorem test_V46_16 : -- V46-16, R186
    after ({ put [(0xFFFC, 0x53), (0xFFFD, 0x01)] [0xD9] { Regs.resetNoBoot with sp := 0xFFFC } with
        ime := false })
      (fun t => t.cycles == 16 && t.regs.pc == 0x0153 && t.regs.sp == 0xFFFE && t.ime == true) = true := by decide

theorem test_V46_17 : -- V46-17, R187
    after (put [] [0xEF] { Regs.resetNoBoot with pc := 0x0200, sp := 0xFFFE })
      (fun t => t.cycles == 16 && t.regs.pc == 0x0028 && t.regs.sp == 0xFFFC && t.raw 0xFFFD == 0x02 &&
        t.raw 0xFFFC == 0x01) = true := by decide

theorem test_V46_18 : -- V46-18, R187
    after (put [] [0xFF] { Regs.resetNoBoot with pc := 0x1234, sp := 0xFFFE })
      (fun t => t.cycles == 16 && t.regs.pc == 0x0038 && t.raw 0xFFFD == 0x12 &&
        t.raw 0xFFFC == 0x35) = true := by decide

/-! CPU control (V47). -/

theorem test_V47_1 : -- V47-1, R189
    after (put [] [0x00] Regs.resetNoBoot)
      (fun t => t.cycles == 4 && t.regs.f == 0xB0 && t.regs.pc == 0x0101) = true := by decide

theorem test_V47_2 : -- V47-2, R190
    after ({ put [] [0x76] Regs.resetNoBoot with
        ime := false })
      (fun t => t.cycles == 4 && t.regs.pc == 0x0101 && t.run == .halted) = true := by decide

theorem test_V47_6 : -- V47-6, R192
    after ({ put [] [0xF3] Regs.resetNoBoot with
        ime := true })
      (fun t => t.cycles == 4 && t.ime == false && t.imePending == false) = true := by decide

theorem test_V47_8 : -- V47-8, R193
    after ({ put [] [0xFB] Regs.resetNoBoot with
        ime := false })
      (fun t => t.cycles == 4 && t.ime == false && t.imePending == true) = true := by decide

theorem test_V47_12 : -- V47-12, R194
    after (put [] [0x27] { Regs.resetNoBoot with a := 0x7D, f := 0x00 })
      (fun t => t.cycles == 4 && t.regs.a == 0x83 && t.regs.f == 0x00) = true := by decide

theorem test_V47_13 : -- V47-13, R194
    after (put [] [0x27] { Regs.resetNoBoot with a := 0x9A, f := 0x00 })
      (fun t => t.cycles == 4 && t.regs.a == 0x00 && t.regs.f == 0x90) = true := by decide

theorem test_V47_17 : -- V47-17, R195
    after (put [] [0x2F] { Regs.resetNoBoot with a := 0x35, f := 0x00 })
      (fun t => t.cycles == 4 && t.regs.a == 0xCA && t.regs.f == 0x60) = true := by decide

theorem test_V47_18 : -- V47-18, R196
    after (put [] [0x37] { Regs.resetNoBoot with f := 0xE0 })
      (fun t => t.cycles == 4 && t.regs.f == 0x90) = true := by decide

theorem test_V47_19 : -- V47-19, R197
    after (put [] [0x3F] { Regs.resetNoBoot with f := 0xF0 })
      (fun t => t.cycles == 4 && t.regs.f == 0x80) = true := by decide

theorem test_V47_20 : -- V47-20, R197
    after (put [] [0x3F] { Regs.resetNoBoot with f := 0x80 })
      (fun t => t.cycles == 4 && t.regs.f == 0x90) = true := by decide

theorem test_V47_21 : -- V47-21, R198
    after (put [] [0xCB, 0x37] { Regs.resetNoBoot with a := 0xA5, f := 0x00 })
      (fun t => t.cycles == 8 && t.regs.a == 0x5A && t.regs.f == 0x00 && t.regs.pc == 0x0102) = true := by decide

theorem test_V47_22 : -- V47-22, R199
    after (put [] [0xD3] Regs.resetNoBoot)
      (fun t => t.cycles == 4 && t.regs.pc == 0x0101 && t.run == .running &&
        t.out.diagnostics == [.unrecognizedOpcode 0x0100 0xD3]) = true := by decide

/-! Interrupts, timer, PPU (V60). -/

theorem test_V60_1 : -- V60-1, R210
    after ({ put [(0xFFFF, 0x01), (0xFF0F, 0x01)] [0x00] { Regs.resetNoBoot with sp := 0xFFFE } with
        ime := true })
      (fun t => t.cycles == 20 && t.regs.pc == 0x0040 && t.regs.sp == 0xFFFC && t.ime == false &&
        t.raw ioIf == 0x00 && t.raw 0xFFFD == 0x01 && t.raw 0xFFFC == 0x00) = true := by decide

theorem test_V60_2 : -- V60-2, R209
    after ({ put [(0xFFFF, 0x1F), (0xFF0F, 0x05)] [0x00] Regs.resetNoBoot with
        ime := true })
      (fun t => t.cycles == 20 && t.regs.pc == 0x0040 && t.raw ioIf == 0x04) = true := by decide

theorem test_V60_3 : -- V60-3, R209
    after ({ put [(0xFFFF, 0x1E), (0xFF0F, 0x1F)] [0x00] Regs.resetNoBoot with
        ime := true })
      (fun t => t.cycles == 20 && t.regs.pc == 0x0048 && t.raw ioIf == 0x1D) = true := by decide

theorem test_V60_4 : -- V60-4, R206
    after ({ put [(0xFFFF, 0x10), (0xFF0F, 0x10)] [0x00] Regs.resetNoBoot with
        ime := true })
      (fun t => t.cycles == 20 && t.regs.pc == 0x0060 && t.raw ioIf == 0x00) = true := by decide

theorem test_V60_5 : -- V60-5, R206
    after ({ put [(0xFFFF, 0x08), (0xFF0F, 0x08)] [0x00] Regs.resetNoBoot with
        ime := true })
      (fun t => t.cycles == 20 && t.regs.pc == 0x0058 && t.raw ioIf == 0x00) = true := by decide

theorem test_V60_6 : -- V60-6, R207
    after ({ put [(0xFFFF, 0xE0), (0xFF0F, 0xE0)] [0x00] Regs.resetNoBoot with
        ime := true })
      (fun t => t.cycles == 4 && t.regs.pc == 0x0101 && t.raw ioIf == 0xE0) = true := by decide

theorem test_V60_7 : -- V60-7, R207
    after ({ put [(0xFFFF, 0x01), (0xFF0F, 0x01)] [0x00] Regs.resetNoBoot with
        ime := false })
      (fun t => t.cycles == 4 && t.regs.pc == 0x0101 && t.raw ioIf == 0x01) = true := by decide

theorem test_V60_10 : -- V60-10, R211
    after ({ put [(0xFFFC, 0x34), (0xFFFD, 0x12)] [0xD9] { Regs.resetNoBoot with sp := 0xFFFC } with
        ime := false })
      (fun t => t.cycles == 16 && t.regs.pc == 0x1234 && t.regs.sp == 0xFFFE && t.ime == true &&
        t.imePending == false) = true := by decide

theorem test_V60_12 : -- V60-12, R214
    after ({ put [] [0x00] Regs.resetNoBoot with
        timer := ⟨252, 0⟩ })
      (fun t => t.cycles == 4 && t.timer.divAcc == 0 && t.raw 0xFF04 == 0x01) = true := by decide

theorem test_V60_13 : -- V60-13, R214
    after ({ put [(0xFF07, 0x05), (0xFF05, 0xFF), (0xFF06, 0xAB)] [0x00] Regs.resetNoBoot with
        timer := ⟨0, 12⟩ })
      (fun t => t.cycles == 4 && t.timer.timaAcc == 0 && t.raw ioIf == 0x04 &&
        t.raw 0xFF05 == 0xAB) = true := by decide

theorem test_V60_14 : -- V60-14, R214
    after (put [(0xFF07, 0x01), (0xFF05, 0x10)] [0x00] Regs.resetNoBoot)
      (fun t => t.cycles == 4 && t.timer.timaAcc == 0 && t.raw 0xFF05 == 0x10) = true := by decide

theorem test_V60_15 : -- V60-15, R214
    after ({ put [(0xFF07, 0x04), (0xFF05, 0x10)] [0x00] Regs.resetNoBoot with
        timer := ⟨0, 1020⟩ })
      (fun t => t.cycles == 4 && t.timer.timaAcc == 0 && t.raw 0xFF05 == 0x11) = true := by decide

theorem test_V60_16 : -- V60-16, R214
    after ({ put [(0xFF07, 0x06), (0xFF05, 0x10)] [0x00] Regs.resetNoBoot with
        timer := ⟨0, 60⟩ })
      (fun t => t.cycles == 4 && t.timer.timaAcc == 0 && t.raw 0xFF05 == 0x11) = true := by decide

theorem test_V60_17 : -- V60-17, R214
    after ({ put [(0xFF07, 0x07), (0xFF05, 0x10)] [0x00] Regs.resetNoBoot with
        timer := ⟨0, 252⟩ })
      (fun t => t.cycles == 4 && t.timer.timaAcc == 0 && t.raw 0xFF05 == 0x11) = true := by decide

theorem test_V60_18 : -- V60-18, R215
    after ({ put [(0xFF07, 0x05), (0xFF05, 0x10)] [0x00] Regs.resetNoBoot with
        timer := ⟨0, 500⟩ })
      (fun t => t.cycles == 4 && t.timer.timaAcc == 8 && t.raw 0xFF05 == 0x2F) = true := by decide

theorem test_V60_19 : -- V60-19, R215
    after ({ put [(0xFF07, 0x05), (0xFF05, 0xFE), (0xFF06, 0xFF)] [0xCD, 0x00,
        0x02] { Regs.resetNoBoot with sp := 0xFFFE } with
        timer := ⟨0, 15⟩ })
      (fun t => t.cycles == 24 && t.raw ioIf == 0x04 && t.timer.timaAcc == 7 &&
        t.raw 0xFF05 == 0xFF) = true := by decide

theorem test_V60_20 : -- V60-20, R62
    after ({ put [] [0xE0, 0x04] { Regs.resetNoBoot with a := 0x00 } with
        timer := ⟨250, 0⟩, cfg := { Config.default with divWriteReset := true } })
      (fun t => t.cycles == 12 && t.timer.divAcc == 6 && t.raw 0xFF04 == 0x01) = true := by decide

theorem test_V60_56 : -- V60-56, R232
    after ({ put [(0xFF07, 0x05), (0xFF05, 0xFF)] [0x00] Regs.resetNoBoot with
        timer := ⟨0, 12⟩, ppu := ⟨143, 452, ppuModeAt 143 452, blankFrame⟩ })
      (fun t => t.cycles == 4 && t.ppu.ly == 144 && t.raw ioIf == 0x05 && t.raw 0xFF44 == 0x90 &&
        t.raw 0xFF05 == 0x00) = true := by decide

theorem test_V60_21 : -- V60-21, R217
    after (put [] [0x00] Regs.resetNoBoot)
      (fun t => t.cycles == 4 && t.ppu.ly == 0 && t.ppu.dot == 4 && t.ppu.mode.bits == 2 &&
        t.raw 0xFF44 == 0x00 && t.raw 0xFF41 == 0x06) = true := by decide

theorem test_V60_22 : -- V60-22, R216
    after ({ put [(0xFF45, 0x05)] [0x00] Regs.resetNoBoot with
        ppu := ⟨0, 76, ppuModeAt 0 76, blankFrame⟩ })
      (fun t => t.cycles == 4 && t.ppu.ly == 0 && t.ppu.dot == 80 && t.ppu.mode.bits == 3 &&
        t.raw 0xFF41 == 0x03) = true := by decide

theorem test_V60_23 : -- V60-23, R216
    after ({ put [(0xFF45, 0x05)] [0x00] Regs.resetNoBoot with
        ppu := ⟨0, 248, ppuModeAt 0 248, blankFrame⟩ })
      (fun t => t.cycles == 4 && t.ppu.ly == 0 && t.ppu.dot == 252 && t.ppu.mode.bits == 0 &&
        t.raw 0xFF41 == 0x00) = true := by decide

theorem test_V60_24 : -- V60-24, R217
    after ({ put [(0xFF45, 0x05)] [0x00] Regs.resetNoBoot with
        ppu := ⟨0, 452, ppuModeAt 0 452, blankFrame⟩ })
      (fun t => t.cycles == 4 && t.ppu.ly == 1 && t.ppu.dot == 0 && t.ppu.mode.bits == 2 &&
        t.raw 0xFF44 == 0x01) = true := by decide

theorem test_V60_25 : -- V60-25, R218
    after ({ put [(0xFF45, 0x05)] [0x00] Regs.resetNoBoot with
        ppu := ⟨143, 452, ppuModeAt 143 452, blankFrame⟩ })
      (fun t => t.cycles == 4 && t.ppu.ly == 144 && t.ppu.mode.bits == 1 && t.raw ioIf == 0x01 &&
        t.out.frames == 1) = true := by decide

theorem test_V60_26 : -- V60-26, R218
    after ({ put [(0xFF45, 0x05)] [0x00] Regs.resetNoBoot with
        ppu := ⟨144, 0, ppuModeAt 144 0, blankFrame⟩ })
      (fun t => t.cycles == 4 && t.ppu.ly == 144 && t.ppu.mode.bits == 1 && t.raw ioIf == 0x00) = true := by decide

theorem test_V60_27 : -- V60-27, R217
    after ({ put [(0xFF45, 0x05)] [0x00] Regs.resetNoBoot with
        ppu := ⟨153, 452, ppuModeAt 153 452, blankFrame⟩ })
      (fun t => t.cycles == 4 && t.ppu.ly == 0 && t.ppu.dot == 0 && t.ppu.mode.bits == 2 &&
        t.raw 0xFF44 == 0x00) = true := by decide

theorem test_V60_28 : -- V60-28, R219
    after ({ put [(0xFF45, 0x05), (0xFF41, 0x40)] [0x00] Regs.resetNoBoot with
        ppu := ⟨4, 452, ppuModeAt 4 452, blankFrame⟩ })
      (fun t => t.cycles == 4 && t.ppu.ly == 5 && t.raw ioIf == 0x02 && t.raw 0xFF41 == 0x46) = true := by decide

theorem test_V60_29 : -- V60-29, R219
    after ({ put [(0xFF45, 0x05), (0xFF41, 0x00)] [0x00] Regs.resetNoBoot with
        ppu := ⟨4, 452, ppuModeAt 4 452, blankFrame⟩ })
      (fun t => t.cycles == 4 && t.ppu.ly == 5 && t.raw ioIf == 0x00 && t.raw 0xFF41 == 0x06) = true := by decide

theorem test_V60_30 : -- V60-30, R219
    after ({ put [(0xFF45, 0x05), (0xFF41, 0x40), (0xFF0F, 0x02)] [0xE0,
        0x0F] { Regs.resetNoBoot with a := 0x00 } with
        ppu := ⟨5, 100, ppuModeAt 5 100, blankFrame⟩ })
      (fun t => t.cycles == 12 && t.ppu.ly == 5 && t.raw ioIf == 0x02 && t.raw 0xFF41 == 0x47) = true := by decide

theorem test_V60_31 : -- V60-31, R219
    after ({ put [(0xFF45, 0x05), (0xFF41, 0x47)] [0x00] Regs.resetNoBoot with
        ppu := ⟨6, 100, ppuModeAt 6 100, blankFrame⟩ })
      (fun t => t.cycles == 4 && t.ppu.ly == 6 && t.raw 0xFF41 == 0x43) = true := by decide

theorem test_V60_32 : -- V60-32, R217
    after ({ put [] [0xE0, 0x44] { Regs.resetNoBoot with a := 0x99 } with
        ppu := ⟨7, 100, ppuModeAt 7 100, blankFrame⟩ })
      (fun t => t.cycles == 12 && t.ppu.ly == 7 && t.raw 0xFF44 == 0x07) = true := by decide

/-! EI under both values of EI_COMMIT (V47-9, V47-11), and the wake-up of a halted CPU (V60-9): one step each. -/

theorem test_ei_leaves_ime :
    after (put [] [0xFB] Regs.resetNoBoot) (fun t => t.ime == false && t.imePending == true && t.cycles == 4) = true := by
  decide
theorem test_step_after_ei_sets_ime :
    after { put [] [0x00] Regs.resetNoBoot with imePending := true }
      (fun t => t.ime == true && t.imePending == false && t.regs.pc == 0x0101) = true := by decide
theorem test_di_after_ei_cancels :
    after { put [] [0xF3] Regs.resetNoBoot with imePending := true }
      (fun t => t.ime == false && t.imePending == false) = true := by decide
theorem test_step_start_commits_before_dispatch :
    after { put [(0xFFFF, 0x01), (0xFF0F, 0x01)] [0x00] Regs.resetNoBoot with
        imePending := true, cfg := { Config.default with eiCommit := .stepStart } }
      (fun t => t.regs.pc == 0x0040 && t.cycles == 20 && t.ime == false) = true := by decide
theorem test_halted_wakes_and_dispatches :
    after { put [(0xFFFF, 0x04), (0xFF0F, 0x04)] [0x00] Regs.resetNoBoot with run := .halted, ime := true }
      (fun t => t.regs.pc == 0x0050 && t.run == .running && t.raw 0xFFFD == 0x01) = true := by decide
theorem test_halted_wakes_without_ime :
    after { put [(0xFFFF, 0x04), (0xFF0F, 0x04)] [0x3C] Regs.resetNoBoot with run := .halted }
      (fun t => t.regs.a == 0x02 && t.run == .running && t.raw 0xFF0F == 0x04) = true := by decide
theorem test_trace_entry :
    after { put [] [0xCB, 0x37] Regs.resetNoBoot with cfg := { Config.default with traceEnabled := true } }
      (fun t => t.out.trace == [⟨0x0100, 0xCB, 8, 8⟩]) = true := by decide
theorem test_prefix_alone :
    (match exec .prefixCB (put [] [0x37] Regs.resetNoBoot) with
      | .next t => t.regs.a == 0x10 && t.regs.pc == 0x0101 && t.cycles == 8
      | _ => false) = true := by decide

/-! Bus and cartridge (95_test_vectors.md V20, E7, E9). -/

/-- An MBC1 cartridge of 64 KiB with external RAM, every bank above 0 starting with its own number. -/
def mbc1 : State :=
  { State.reset with cart := { State.reset.cart with
      rom := ⟨0x10000, [(0x147, 3), (0x4000, 1), (0x8000, 2), (0xC000, 3)]⟩
      kind := .mbc1
      eram := ⟨0x8000, []⟩ } }

/-- The same with the external RAM enabled. -/
def mbc1Open : State := { mbc1 with cart := { mbc1.cart with ramEnable := true } }

theorem test_bank_zero_selects_one : (mbc1.busWrite 0x2000 0x00).busRead 0x4000 = 1 := by decide
theorem test_bank_select : (mbc1.busWrite 0x3FFF 0x03).busRead 0x4000 = 3 := by decide
theorem test_bank_wraps_modulo_length : (mbc1.busWrite 0x2000 0x06).busRead 0x4000 = 2 := by decide
theorem test_upper_bits : ((mbc1.busWrite 0x2000 0x20).busWrite 0x4000 0x01).cart.romBankEff = 0x21 := by decide
theorem test_ram_enable : (mbc1.busWrite 0x1FFF 0x1A).cart.ramEnable = true := by decide
theorem test_ram_disabled_reads_ff : mbc1.busRead 0xA000 = 0xFF := by decide
theorem test_ram_stores : (mbc1Open.busWrite 0xBFFF 0x5A).busRead 0xBFFF = 0x5A := by decide
theorem test_ram_bank_needs_mode :
    ((((mbc1Open.busWrite 0x6000 1).busWrite 0x4000 2).busWrite 0xA000 7).cart.eram.cells) = [(0x4000, 7)] := by decide
theorem test_no_controller_ignores_writes : State.reset.busWrite 0x2000 0x05 = State.reset := rfl
theorem test_unknown_type_warns :
    constructionDiagnostics ⟨0x8000, [(0x147, 0x13)]⟩ = [.unknownCartridgeType 0x13] := by decide
theorem test_dma_copies_page :
    ((put [(0xC000, 0x11), (0xC09F, 0x22), (0xC0A0, 0x33)] [] Regs.resetNoBoot).busWrite 0xFF46 0xC0).mem =
      [(0xC000, 0x11), (0xC09F, 0x22), (0xC0A0, 0x33), (0xFE00, 0x11), (0xFE9F, 0x22), (0xFF46, 0xC0)] := by decide +kernel
theorem test_serial_emits :
    ((put [(0xFF01, 0x41)] [] Regs.resetNoBoot).busWrite 0xFF02 0x81).out.serial = [0x41] := by decide
theorem test_joypad_reads_pressed_right :
    (State.reset.setButtons 0x01).busRead 0xFF00 = 0xCE ∧
      ((State.reset.setButtons 0x01).busWrite 0xFF00 0x10).busRead 0xFF00 = 0xDF := by decide
theorem test_overlay_hides_rom_until_disabled :
    let s : State := { mbc1 with boot := ⟨0x100, [(0x00, 0x31)]⟩, bootActive := true }
    s.busRead 0x0000 = 0x31 ∧ s.busRead 0x0147 = 3 ∧ (s.busWrite 0xFF50 0x01).busRead 0x0000 = 0 := by decide
theorem test_construct_with_boot_image :
    (match State.construct { SessionInputs.defaults ⟨0x8000, []⟩ with boot := some ⟨0x100, [(0, 0x31)]⟩ } with
      | .ok s => s.regs == Regs.resetBoot && s.bootActive
      | .error _ => false) = true := by decide

/-! Rendering (95_test_vectors.md V60-33, V60-34, V60-42, V60-43, V60-45, V60-48, V60-50). -/

/-- Row 0 of fixture BG. -/
def bgCells : List Host.Cell :=
  [(0x8010, 0xF0), (0x8011, 0xCC), (0x8800, 0xFF), (0x9011, 0xFF), (0x9800, 1), (0x9801, 0x80), (0xFF47, 0xE4)]

/-- Row 0 of fixture SPR, with two sprites. -/
def spriteCells : List Host.Cell :=
  [(0x8020, 0xC1), (0x8031, 0xFF), (0xFE00, 16), (0xFE01, 8), (0xFE02, 3), (0xFE04, 16), (0xFE05, 10), (0xFE06, 2),
    (0xFF40, 0x92), (0xFF47, 0xE4), (0xFF48, 0xE4)]

/-- The shades of the first columns of line 0. -/
def columns (cells : List Host.Cell) (n : Nat) : List Shade :=
  let m := Memory.ofCells cells
  (List.range n).map (m.paintColumn 0 (m.paintedSprites 0))

theorem test_background_unsigned_tiles :
    columns ((0xFF40, 0x91) :: bgCells) 10 = [3, 3, 1, 1, 2, 2, 0, 0, 1, 1] := by decide
theorem test_background_signed_tiles :
    columns ((0xFF40, 0x81) :: bgCells) 10 = [2, 2, 2, 2, 2, 2, 2, 2, 1, 1] := by decide
theorem test_sprite_priority : columns spriteCells 10 = [2, 2, 2, 2, 2, 2, 2, 2, 0, 1] := by decide

/-- Fixture SPR with the one sprite (Y, X, tile, attributes) at its rows 0 and 7, and LCDC. -/
def oneSprite (lcdc y tile attr : Byte) : List Host.Cell :=
  [(0x8010, 0xF0), (0x8011, 0xCC), (0x8020, 0xC1), (0x802E, 0xFF), (0x8031, 0xFF), (0x9800, 1), (0xFE00, y), (0xFE01, 8),
    (0xFE02, tile), (0xFE03, attr), (0xFF40, lcdc), (0xFF47, 0xE4)]

theorem test_sprite_x_flip :
    columns ((0xFF48, 0xE4) :: oneSprite 0x92 16 2 0x20) 9 = [1, 0, 0, 0, 0, 0, 1, 1, 0] := by decide
theorem test_sprite_y_flip :
    columns ((0xFF48, 0xE4) :: oneSprite 0x92 16 2 0x40) 9 = [1, 1, 1, 1, 1, 1, 1, 1, 0] := by decide
theorem test_sprite_behind_background :
    columns ((0xFF48, 0x3C) :: oneSprite 0x93 16 3 0x80) 8 = [3, 3, 1, 1, 2, 2, 3, 3] := by decide
theorem test_sprite_height_16 :
    columns ((0xFF48, 0xE4) :: oneSprite 0x96 8 3 0) 9 = [2, 2, 2, 2, 2, 2, 2, 2, 0] := by decide

/-! Witnesses: for each statement with hypotheses, a state and operands that meet them together. -/

/-- A state that meets the invariants and is not the reset state. -/
def sample : State :=
  { mbc1Open with
    regs := { Regs.resetNoBoot with h := 0xC0, l := 0x00, pc := 0x0150 }
    mem := [(0xC000, 0x5A), (0xFF0F, 0x01), (0xFFFF, 0x01)]
    timer := ⟨4, 4⟩
    ppu := { State.reset.ppu with dot := 4 }
    out := { State.reset.out with totalCycles := 4 } }

theorem step_sample : ∃ t, step sample = .next t := ⟨_, rfl⟩

theorem test_witness_O2 :
    (Instr.ldBCN16 0xA55A).wellFormed = true ∧ 0 < 2 ∧ 2 < (encode (.ldBCN16 0xA55A)).length ∧
      (encode (.ldBCN16 0xA55A)).headD 0 ≠ 0xCB := by decide
theorem test_witness_O5_executes :
    sample.prelude.stepKind = .execute ∧
      decode [sample.busRead sample.regs.pc, sample.busRead (sample.regs.pc + 1), sample.busRead (sample.regs.pc + 2)] =
        .ok .nop := by decide
theorem test_witness_O5_running :
    sample.run = .running ∧ (sample.ime = false ∨ sample.pending = 0) ∧
      (sample.cfg.eiCommit = .afterNextInstruction ∨ sample.imePending = false) := by decide
theorem test_witness_O8 : sample.Inv ∧ ∃ t, step sample = .next t := ⟨by decide, step_sample⟩
theorem test_witness_O9 : sample.clockOk ∧ ∃ t, step sample = .next t := ⟨by decide, step_sample⟩

/-- Construction inputs with a boot image and initial memory. -/
def inputs : SessionInputs :=
  { SessionInputs.defaults ⟨0x8000, [(0x147, 2)]⟩ with
    boot := some ⟨0x100, [(0, 0x31)]⟩, memInit := postBootMemInit 0x11 0x22, extRamInit := [(0x7FFF, 1)] }

theorem test_witness_O10 :
    inputs.rom = .image ⟨0x8000, [(0x147, 2)]⟩ ∧ inputs.legal ⟨0x8000, [(0x147, 2)]⟩ := by decide
theorem test_witness_O11_image : inputs.rom = .image ⟨0x8000, [(0x147, 2)]⟩ ∧ 0 < 0x8000 := by decide
theorem test_witness_O11_errors :
    { inputs with rom := .missing }.rom = .missing ∧ { inputs with rom := .unreadable }.rom = .unreadable ∧
      { inputs with rom := .image ⟨0, []⟩ }.rom = .image ⟨0, []⟩ := by decide
theorem test_witness_O12 : ∃ t, step sample = .next t := step_sample
theorem test_witness_O13 : sample.bootActive = false ∧ ∃ t, step sample = .next t := ⟨rfl, step_sample⟩
theorem test_witness_O14_entry : { sample with ime := true }.prelude.stepKind = .interrupt .vblank := by decide
theorem test_witness_O14_next :
    ({ sample with ime := true }.run = .running ∨ { sample with ime := true }.run = .halted) ∧
      { sample with ime := true }.ime = true ∧ (sample.raw 0xFFFF).getLsbD 0 = true ∧
      (sample.raw 0xFF0F).getLsbD 0 = true := by decide
theorem test_witness_O14_halted :
    { sample with ime := true, run := .halted }.prelude.stepKind = .interrupt .vblank := by decide
theorem test_witness_O15_dispatches : { sample with ime := true }.dispatched = some .vblank := by decide
theorem test_witness_O15_none : sample.dispatched = none := by decide
theorem test_witness_O15_branches :
    { sample with run := .halted }.prelude.stepKind = .execute ∧
      { State.reset with run := .halted }.prelude.stepKind = .wait 4 ∧
      { sample with run := .stopped }.prelude.stepKind = .wait 4 := by decide
theorem test_witness_O16_waits :
    { State.reset with run := .halted }.run = .halted ∧ { State.reset with run := .halted }.pending = 0 := by decide
theorem test_witness_O16_wakes :
    { sample with run := .halted }.run = .halted ∧ { sample with run := .halted }.pending ≠ 0 := by decide
theorem test_witness_O17 :
    { sample with run := .stopped }.stuck ∧ { sample with run := .locked }.stuck ∧
      (0xFF45 : Word) ∉ ([0xFF04, 0xFF05, 0xFF0F, 0xFF41, 0xFF44] : List Word) := by decide
theorem test_witness_O18_ei :
    let s := put [] [0xFB] Regs.resetNoBoot
    s.cfg.eiCommit = .afterNextInstruction ∧ s.prelude.stepKind = .execute ∧ s.imePending = false ∧
      s.fetchInstr = .ei := by decide
theorem test_witness_O18_next :
    let s : State := { put [] [0xF3] Regs.resetNoBoot with imePending := true }
    s.cfg.eiCommit = .afterNextInstruction ∧ s.prelude.stepKind = .execute ∧ s.imePending = true ∧
      s.fetchInstr = .di := by decide
theorem test_witness_O18_step_start :
    let s : State := { sample with imePending := true, cfg := { Config.default with eiCommit := .stepStart } }
    s.cfg.eiCommit = .stepStart ∧ s.imePending = true := by decide
theorem test_witness_O19_traced :
    let s : State := { sample with cfg := { Config.default with traceEnabled := true } }
    s.cfg.traceEnabled = true ∧ s.prelude.stepKind = .execute ∧ ∃ t, step s = .next t :=
  ⟨rfl, by decide, _, rfl⟩
theorem test_witness_O20 : ∃ t, step sample = .next t := step_sample
theorem test_witness_O22_enabled : ((put [(0xFF07, 0x05)] [] Regs.resetNoBoot).raw 0xFF07).getLsbD 2 = true := by decide
theorem test_witness_O22_frozen : (sample.raw 0xFF07).getLsbD 2 = false := by decide
theorem test_witness_O24 :
    let s : State := { put [(0xFF41, 0x40)] [] Regs.resetNoBoot with ppu := { State.reset.ppu with dot := 8 } }
    after s (fun t => t.ppu.ly == (t.raw 0xFF45).toNat && (t.raw 0xFF41).getLsbD 6) = true := by decide

/-- Four dots before line 144. -/
def beforeVBlank : State :=
  { sample with ppu := { State.reset.ppu with ly := 143, dot := 452, mode := ppuModeAt 143 452 } }

theorem test_witness_O25_advance :
    beforeVBlank.countersOk ∧ 4 < 456 ∧ 455 < 456 ∧ (beforeVBlank.ppuAdvance 4).ppu.ly = 144 ∧
      (beforeVBlank.ppuAdvance 3).ppu.ly = 143 := by decide
theorem test_witness_O25_enters :
    beforeVBlank.countersOk ∧ beforeVBlank.ppu.ly = 143 ∧ after beforeVBlank (fun t => t.ppu.ly == 144) = true := by
  decide
theorem test_witness_O25_other : sample.countersOk ∧ after sample (fun t => t.ppu.ly == 0) = true := by decide
theorem test_witness_O26 :
    (0 : Nat) < 144 ∧ (∀ a ∈ rendererRegisters, Memory.read [] a = Memory.read [(0xC000, 1)] a) ∧
      (∀ a, 0x8000 ≤ a → a ≤ 0x9FFF → Memory.read [] a = Memory.read [(0xC000, 1)] a) ∧
      ∀ a, 0xFE00 ≤ a → a ≤ 0xFE9F → Memory.read [] a = Memory.read [(0xC000, 1)] a := by
  refine ⟨by decide, by decide, fun a _ _ => ?_, fun a _ _ => ?_⟩ <;>
    simp only [Memory.read] <;> rw [if_neg (by omega)]
theorem test_witness_O27_visible :
    beforeVBlank.countersOk ∧ beforeVBlank.ppu.ly < 144 ∧
      after beforeVBlank (fun t => t.ppu.ly != beforeVBlank.ppu.ly) = true := by decide
theorem test_witness_O28_meets_ends :
    let m := Memory.ofCells spriteCells
    m.spriteOnLine 0 0 = true ∧ m.spriteOnLine 7 0 = true ∧ m.spriteOnLine 8 0 = false ∧
      (Memory.ofCells (oneSprite 0x96 8 3 0)).spriteOnLine 7 0 = true ∧
      (Memory.ofCells (oneSprite 0x96 8 3 0)).spriteOnLine 8 0 = false := by decide
theorem test_witness_O28_columns :
    let m := Memory.ofCells spriteCells
    spriteValue m 0 0 0 = some 2 ∧ spriteValue m 0 7 0 = some 2 ∧ spriteValue m 0 8 0 = none := by decide
theorem test_witness_O28_off : (Memory.read [] 0xFF40).getLsbD 1 = false := by decide
theorem test_witness_O28_nothing_painted :
    ∀ n < 40, (Memory.ofCells spriteCells).spriteOnLine 0 n = true →
      (Memory.ofCells spriteCells).spriteShade 0 159 n = none := by decide
theorem test_witness_O28_painted :
    let m := Memory.ofCells spriteCells
    (m.read 0xFF40).getLsbD 1 = true ∧ m.spriteOnLine 0 0 = true ∧ m.spriteShade 0 2 0 = some 2 ∧
      ∀ k < 40, k ≠ 0 → m.spriteOnLine 0 k = true → m.spriteShade 0 2 k ≠ none → spriteOver m 0 k := by
  unfold spriteOver; decide
theorem test_witness_O29 : ((Memory.ofCells ((0xFF40, 0xE1) :: bgCells)).read 0xFF40).getLsbD 1 = false := by decide
theorem test_witness_O29_ends :
    let m := Memory.ofCells ((0xFF40, 0xE1) :: (0xFF4B, 11) :: bgCells)
    (behindValue m 0 3).isSome = true ∧ (behindValue m 0 4).isSome = true ∧
      (0 : Nat) < 160 ∧ (159 : Nat) < 160 := by decide

/-- The ends of the ranges of the cartridge window. -/
def windowEnds : List Word := [0x0000, 0x1FFF, 0x2000, 0x3FFF, 0x4000, 0x5FFF, 0x6000, 0x7FFF, 0xA000, 0xBFFF]

theorem test_witness_O30 :
    (windowEnds.all fun a => mbc1Open.overlaid a == false &&
        decide (a.toNat ≤ 0x7FFF ∨ (0xA000 ≤ a.toNat ∧ a.toNat ≤ 0xBFFF))) = true ∧
      mbc1Open.cart.kind = .mbc1 ∧ State.reset.cart.kind = .noMbc ∧ mbc1Open.cart.bankLo ≠ 0 ∧
      mbc1Open.cart.ramEnable = true ∧ 0 < mbc1Open.cart.eram.size := by decide
theorem test_witness_O31 :
    (windowEnds.all fun a => mbc1Open.overlaid a == false) = true ∧ mbc1Open.cart.bankLo ≠ 0 := by decide
theorem test_witness_O32_plain :
    (([0x8000, 0x9FFF, 0xC000, 0xFEFF, 0xFF04, 0xFF46, 0xFFFF] : List Word).all fun a =>
      decide (((0x8000 ≤ a.toNat ∧ a.toNat ≤ 0x9FFF) ∨ 0xC000 ≤ a.toNat) ∧ a ≠ 0xFF00)) = true ∧
      sample.cfg.divWriteReset = false := by decide
theorem test_witness_O32_no_effect :
    (([0x8000, 0x9FFF, 0xC000, 0xFF01, 0xFF45, 0xFF51, 0xFFFF] : List Word).all fun a =>
      decide (((0x8000 ≤ a.toNat ∧ a.toNat ≤ 0x9FFF) ∨ 0xC000 ≤ a.toNat) ∧ a ≠ 0xFF00 ∧
        a ∉ ([0xFF02, 0xFF04, 0xFF46, 0xFF50] : List Word))) = true := by decide
theorem test_witness_O32_local :
    (([0x8000, 0x9FFF, 0xC000, 0xFF00, 0xFF50, 0xFFFF] : List Word).all fun a =>
      decide (sample.localStore a 1)) = true := by decide
theorem test_witness_O32_overlay :
    let s : State := { sample with boot := ⟨0x80, [(0x7F, 1)]⟩, bootActive := true }
    s.bootActive = true ∧ (0x007F : Word).toNat < min s.boot.size 0x100 ∧ s.localStore 0x007F 1 := by decide
theorem test_witness_O33 : (0x9F : Nat) < 160 ∧ (0xFDFF : Word) ≠ 0xFF46 ∧ (0xFDFF : Word).toNat < 0xFE00 := by decide
theorem test_witness_O37 : sample.localStore (sample.regs.h ++ sample.regs.l) 1 := by decide
theorem test_witness_O40 : sample.localStore 0xC100 1 ∧ (sample.busWrite 0xC100 1).localStore 0xC101 2 := by decide
theorem test_witness_O41 :
    sample.localStore (sample.regs.sp - 1) 1 ∧
      (sample.busWrite (sample.regs.sp - 1) 1).localStore (sample.regs.sp - 2) 2 := by decide
theorem test_witness_O44 : AluOp.sbc = .sub ∨ AluOp.sbc = .sbc ∨ AluOp.sbc = .cp := by decide
theorem test_witness_O45 : AluOp.xor = .and ∨ AluOp.xor = .xor ∨ AluOp.xor = .or := by decide
theorem test_witness_O52_taken : sample.cond .z = true ∧ sample.cond .nc = false := by decide
theorem test_witness_O57 :
    (99 : Nat) < 100 ∧ (0 : Nat) < 100 ∧ { sample.regs with a := 0x99 }.a = bcd 99 := by decide
theorem test_witness_O59 : ∀ i ∈ ([.illegalD3, .illegalFD] : List Instr), unrecognizedByte i ≠ none := by decide
theorem test_witness_O16_steps :
    (∃ t, step { State.reset with run := .halted } = .next t) ∧ ∃ t, step { sample with run := .halted } = .next t :=
  ⟨⟨_, rfl⟩, ⟨_, rfl⟩⟩
theorem test_witness_O17_steps :
    (∃ t, step { sample with run := .stopped } = .next t) ∧ ∃ t, step { sample with run := .locked } = .next t :=
  ⟨⟨_, rfl⟩, ⟨_, rfl⟩⟩
theorem test_witness_O46_O49_O51 :
    let hl := sample.regs.h ++ sample.regs.l
    sample.localStore hl (sample.busRead hl + 1) ∧ sample.localStore hl 0 ∧ sample.localStore hl 0xFF := by decide
theorem test_witness_O53 :
    sample.localStore (sample.regs.sp - 1) (upper sample.regs.pc) ∧
      (sample.busWrite (sample.regs.sp - 1) (upper sample.regs.pc)).localStore (sample.regs.sp - 2)
        (lower sample.regs.pc) := by decide
theorem test_witness_O54_both : sample.cond .z = true ∧ sample.cond .nz = false := by decide


end Sys2Proof.Tests
end

section
/-! PROOFS. Construction, reset, what no step writes, the instruction a step runs, and the stack instructions:
the statements O5, O7, O10 to O12, O41, O42, O53 and O54. The lemmas about the model come first. -/

namespace Sys2Proof.Machine

open Sys2Proof

/-! ### Construction (R235, R236) -/

/-- Every pixel of the frame buffer at reset is shade 0 (R41). -/
theorem blankFrame_pixel (y : Fin 144) (x : Fin 160) : blankFrame[y][x] = 0 := by
  simp [blankFrame]

/-- Construction with a ROM of at least one byte builds the session (R235). -/
theorem State.construct_image {i : SessionInputs} {rom : Image} (hi : i.rom = .image rom) (hsize : 0 < rom.size) :
    State.construct i = .ok (i.build rom) := by
  have hload : i.loadRom = .ok rom := by simp [SessionInputs.loadRom, hi, Nat.ne_of_gt hsize]
  simp [State.construct, hload]

/-- Without a ROM image the load error is construction's answer (R235 (1)). -/
theorem State.construct_loadError {i : SessionInputs} {r : Fault} (h : i.loadRom = .error r) :
    State.construct i = .error r := by
  simp [State.construct, h]

/-- A missing boot image counts as an empty one, which is in canonical form. -/
theorem SessionInputs.bootImage_wf {i : SessionInputs} (h : ∀ b ∈ i.boot, b.wf) : i.bootImage.wf := by
  unfold SessionInputs.bootImage
  cases hb : i.boot with
  | none => exact ⟨⟨List.Pairwise.nil, fun _ h => nomatch h⟩, fun _ h => nomatch h⟩
  | some b => exact h b hb

/-- The session built from legal inputs meets the invariant (R7, R235). -/
theorem SessionInputs.build_inv {i : SessionInputs} {rom : Image} (h : i.legal rom) : (i.build rom).Inv := by
  obtain ⟨hrom, hsize, hboot, hram, hinit, hinitBelow, hmem, hmemBelow⟩ := h
  have hmemories : (i.build rom).memoriesOk :=
    ⟨hmem, hmemBelow, SessionInputs.bootImage_wf hboot, hrom, hinit, hinitBelow⟩
  have hcart : (i.build rom).cartOk := ⟨hsize, rfl, (by decide : (1 : BitVec 5) ≠ 0), hram⟩
  have hcounters : (i.build rom).countersOk :=
    ⟨(by decide : 0 < 256), (by decide : 0 < 154), (by decide : 0 < 456), rfl⟩
  have hf : (i.build rom).regs.f &&& 0x0F = 0 := by
    unfold SessionInputs.build
    dsimp only
    split <;> rfl
  have hoverlay : (i.build rom).bootActive = true → 0 < (i.build rom).boot.size := fun hb =>
    Nat.pos_of_ne_zero (bne_iff_ne.mp hb)
  have hrun : (i.build rom).run = .locked → (i.build rom).cfg.illegalOpcodeMode = .lock := fun h => nomatch h
  exact ⟨hmemories, hcart, hcounters, hf, hrun, hoverlay⟩

/-- The clocks of a new session all stand at 0. -/
theorem SessionInputs.build_clockOk (i : SessionInputs) (rom : Image) : (i.build rom).clockOk := by
  simp [State.clockOk, SessionInputs.build]

/-- The type bytes R49 does not know. -/
theorem knownCartKind_eq_none (t : Byte) : knownCartKind t = none ↔ t ∉ ([0, 1, 2, 3] : List Byte) := by
  unfold knownCartKind
  split
  · simp_all
  · split <;> simp_all

/-- R49 in one formula: the controller of a ROM image by its size and its byte 0x147. -/
theorem cartKindOf_eq (rom : Image) :
    cartKindOf rom = if rom.size ≤ 0x147 then .noMbc
      else if rom.read 0x147 ∈ ([1, 2, 3] : List Byte) then .mbc1 else .noMbc := by
  unfold cartKindOf cartTypeByte
  split
  · rfl
  · generalize rom.read 0x147 = t
    by_cases h0 : t = 0
    · subst h0; rfl
    · by_cases h1 : t = 1 ∨ t = 2 ∨ t = 3 <;> simp_all [knownCartKind]

/-- The default EXT_RAM_SIZE of a ROM image (R7, D28). -/
theorem defaultExtRamSize_eq (rom : Image) :
    defaultExtRamSize (cartTypeByte rom) =
      if 0x147 < rom.size ∧ rom.read 0x147 ∈ ([2, 3] : List Byte) then 0x8000 else 0 := by
  unfold defaultExtRamSize cartTypeByte
  by_cases h : rom.size ≤ 0x147
  · simp [h, Nat.not_lt.mpr h]
  · simp [h, Nat.not_le.mp h]

/-- The one diagnostic of construction, for a type byte R49 does not know. -/
theorem constructionDiagnostics_eq (rom : Image) :
    constructionDiagnostics rom =
      if 0x147 < rom.size ∧ rom.read 0x147 ∉ ([0, 1, 2, 3] : List Byte) then
        [.unknownCartridgeType (rom.read 0x147)] else [] := by
  unfold constructionDiagnostics cartTypeByte
  by_cases h : rom.size ≤ 0x147
  · simp [h, Nat.not_lt.mpr h, knownCartKind_eq_none]
  · simp [h, Nat.not_le.mp h, knownCartKind_eq_none]

/-! ### What no step writes -/

/-- The inputs of a session that execution only reads: the ROM, the controller, the size of the external RAM, the
boot image, the host's buttons and the parameters. -/
structure SameInputs (s t : State) : Prop where
  rom : t.cart.rom = s.cart.rom
  kind : t.cart.kind = s.cart.kind
  eramSize : t.cart.eram.size = s.cart.eram.size
  boot : t.boot = s.boot
  buttons : t.buttons = s.buttons
  cfg : t.cfg = s.cfg

theorem SameInputs.trans {s t u : State} (h : SameInputs s t) (k : SameInputs t u) : SameInputs s u :=
  ⟨k.rom.trans h.rom, k.kind.trans h.kind, k.eramSize.trans h.eramSize, k.boot.trans h.boot,
    k.buttons.trans h.buttons, k.cfg.trans h.cfg⟩

theorem Touch.sameInputs {di : Bool} {s t : State} (h : Touch di s t) : SameInputs s t :=
  ⟨h.rom, h.kind, h.eramSize, h.boot, h.buttons, h.cfg⟩

theorem DeviceFrame.sameInputs {s t : State} (h : DeviceFrame s t) : SameInputs s t := by
  rw [h.same]
  exact ⟨rfl, rfl, rfl, rfl, rfl, rfl⟩

theorem State.prelude_sameInputs (s : State) : SameInputs s s.prelude := by
  rw [State.prelude_eq]
  exact ⟨rfl, rfl, rfl, rfl, rfl, rfl⟩

/-- A step is the prelude, the CPU's part, the devices and the trace, and each of them keeps the inputs. -/
theorem step_sameInputs {s t : State} (h : step s = .next t) : SameInputs s t := by
  obtain ⟨u, ⟨tr, rfl⟩, hu⟩ := step_devices h
  have hcpu : SameInputs s.prelude u := (step_touch hu).1.sameInputs
  have hdev : SameInputs u u.advanceDevices := u.advanceDevices_frame.sameInputs
  have htrace : SameInputs u.advanceDevices
      { u.advanceDevices with out := { u.advanceDevices.out with trace := tr } } :=
    ⟨rfl, rfl, rfl, rfl, rfl, rfl⟩
  exact ((s.prelude_sameInputs.trans hcpu).trans hdev).trans htrace

/-! ### The instruction a step runs (R12, R24, R204) -/

@[simp] theorem State.prelude_regs (s : State) : s.prelude.regs = s.regs := by
  rw [State.prelude_eq]

@[simp] theorem State.prelude_busRead (s : State) (a : Word) : s.prelude.busRead a = s.busRead a := by
  rw [State.prelude_eq]
  rfl

/-- The prelude fetches nothing: the instruction at PC is the same before and after it. -/
@[simp] theorem State.prelude_fetchInstr (s : State) : s.prelude.fetchInstr = s.fetchInstr := by
  simp [State.fetchInstr]

/-- Every instruction has at most three bytes (R84). -/
theorem lengthOf_le_three (b0 : Byte) : lengthOf b0 ≤ 3 := by
  unfold lengthOf
  repeat' split
  all_goals decide

/-- Three bytes are never too few to decode (R82, R83). -/
theorem decode_three_bytes (b0 b1 b2 : Byte) : decode [b0, b1, b2] = .ok (decode3 b0 b1 b2) := by
  have h : ¬ 3 < lengthOf b0 := Nat.not_lt.mpr (lengthOf_le_three b0)
  simp [decode, h]

/-! The operand bytes do not decide how long an instruction is, so its length is a fact about its first byte: one
small check of each of the 256 opcodes. -/

theorem encode_jrIf_length (cc : Cond) (e : Byte) : (encode (.jrIf cc e)).length = 2 := by cases cc <;> rfl
theorem encode_jpIf_length (cc : Cond) (a : Word) : (encode (.jpIf cc a)).length = 3 := by cases cc <;> rfl
theorem encode_callIf_length (cc : Cond) (a : Word) : (encode (.callIf cc a)).length = 3 := by cases cc <;> rfl
theorem encode_ld16Imm_length (rr : R16) (n : Word) : (encode (.ld16Imm rr n)).length = 3 := by cases rr <;> rfl
theorem encode_ld8Imm_length (r : R8) (n : Byte) : (encode (.ld8Imm r n)).length = 2 := by cases r <;> rfl
theorem encode_aluImm_length (op : AluOp) (n : Byte) : (encode (.aluImm op n)).length = 2 := by cases op <;> rfl

/-- The rows with x = 0: the operands of JR cc, LD rr,n16 and LD r,n8 do not change the length. -/
theorem encode_decodeX0_length (y z p q : Nat) (n8 : Byte) (n16 : Word) :
    (encode (decodeX0 y z p q n8 n16)).length = (encode (decodeX0 y z p q 0 0)).length := by
  match z with
  | 0 =>
    match y with
    | 0 | 1 | 2 | 3 => rfl
    | y + 4 => exact (encode_jrIf_length _ _).trans (encode_jrIf_length _ _).symm
  | 1 =>
    simp only [decodeX0]
    split
    · simp only [encode_ld16Imm_length]
    · rfl
  | 2 | 3 | 4 | 5 => rfl
  | 6 =>
    simp only [decodeX0]
    split
    · simp only [encode_ld8Imm_length]
    · rfl
  | z + 7 => rfl

/-- The rows with x = 3: so for JP cc, CALL cc and the ALU operations on an immediate. -/
theorem encode_decodeX3_length (y z p q : Nat) (n8 : Byte) (n16 : Word) :
    (encode (decodeX3 y z p q n8 n16)).length = (encode (decodeX3 y z p q 0 0)).length := by
  match z with
  | 0 | 3 =>
    simp only [decodeX3]
    split <;> rfl
  | 1 => rfl
  | 2 =>
    simp only [decodeX3]
    split
    case h_5 => simp only [encode_jpIf_length]
    all_goals rfl
  | 4 =>
    simp only [decodeX3]
    split
    case h_5 => simp only [encode_callIf_length]
    all_goals rfl
  | 5 =>
    simp only [decodeX3]
    split
    · rfl
    · split <;> rfl
  | 6 => exact (encode_aluImm_length _ _).trans (encode_aluImm_length _ _).symm
  | z + 7 => rfl

/-- The length of a base-page instruction is that of the same opcode with zero operands. -/
theorem encode_decodeBase_length (op n8 : Byte) (n16 : Word) :
    (encode (decodeBase op n8 n16)).length = (encode (decodeBase op 0 0)).length := by
  unfold decodeBase
  split
  · exact encode_decodeX0_length ..
  · rfl
  · rfl
  · exact encode_decodeX3_length ..

theorem encode_decodeCB_length : ∀ op2 : Byte, (encode (decodeCB op2)).length = 2 := by
  decide

theorem encode_decodeBase_zero_length :
    ∀ op : Byte, op ≠ 0xCB → (encode (decodeBase op 0 0)).length = lengthOf op := by
  decide

/-- PC moves past the bytes the instruction is encoded in: the length told from the first byte (R84) is the
length of the encoding. -/
theorem encode_decode3_length (b0 b1 b2 : Byte) : (encode (decode3 b0 b1 b2)).length = lengthOf b0 := by
  unfold decode3
  split
  · next h => rw [encode_decodeCB_length, h]; rfl
  · next h => rw [encode_decodeBase_length, encode_decodeBase_zero_length b0 h]

/-- What `decode` reads from the bytes at PC is the instruction a step fetches (R12, R79). -/
theorem State.decode_fetchInstr (s : State) :
    decode [s.busRead s.regs.pc, s.busRead (s.regs.pc + 1), s.busRead (s.regs.pc + 2)] = .ok s.fetchInstr :=
  decode_three_bytes _ _ _

/-- The fetch moves PC by the length of the fetched instruction's encoding (R24, R79, R84). -/
theorem State.afterFetch_eq (s : State) :
    s.afterFetch =
      { s with regs := { s.regs with pc := s.regs.pc + BitVec.ofNat 16 (encode s.fetchInstr).length } } := by
  unfold State.fetchInstr
  rw [encode_decode3_length]
  rfl

/-- A Running CPU with no enable to commit passes the prelude unchanged (R204 (a), (c)). -/
theorem State.prelude_of_running {s : State} (hrun : s.run = .running)
    (hpend : s.cfg.eiCommit = .afterNextInstruction ∨ s.imePending = false) : s.prelude = s := by
  have hcommit : s.commitAtStart = s := if_neg (by rcases hpend with h | h <;> simp [h])
  have hwake : s.wake = s := if_neg (by simp [hrun])
  rw [State.prelude, hcommit, hwake]

/-- Nothing is dispatched while IME is 0 or no enabled source is requested (R203, R204 (d)). -/
theorem State.dispatched_eq_none {s : State} (h : s.ime = false ∨ s.pending = 0) : s.dispatched = none := by
  unfold State.dispatched
  rcases h with h | h
  · simp [h]
  · simp [h, lowestRequest]

/-- A Running CPU with nothing to dispatch executes (R204 (e)). -/
theorem State.stepKind_of_running {s : State} (hrun : s.run = .running) (hd : s.dispatched = none) :
    s.stepKind = .execute := by
  simp [State.stepKind, hrun, hd]

/-! ### The stack (R13) -/

/-- Two stores in a row are a `storesTwo`, whatever the registers and the cost become: each is a bus write, with a
bus write's frame (R47). -/
theorem State.storesTwo_afterStores (s : State) (a1 : Word) (v1 : Byte) (a2 : Word) (v2 : Byte) (g : Regs) (c : Nat) :
    s.storesTwo (.next (s.afterStores a1 v1 a2 v2 g c)) a1 v1 a2 v2 g c := by
  have hbus : BusFrame s ((s.busWrite a1 v1).busWrite a2 v2) :=
    (s.busWrite_busFrame a1 v1).trans ((s.busWrite a1 v1).busWrite_busFrame a2 v2)
  have hself : s.afterStores a1 v1 a2 v2 s.regs s.cycles = (s.busWrite a1 v1).busWrite a2 v2 := by
    have hregs : ((s.busWrite a1 v1).busWrite a2 v2).regs = s.regs := by simp
    have hcycles : ((s.busWrite a1 v1).busWrite a2 v2).cycles = s.cycles := by simp
    rw [State.afterStores, ← hregs, ← hcycles]
  refine ⟨rfl, hself ▸ hbus.same, fun h1 h2 x hx => ?_⟩
  obtain ⟨hx1, hx2⟩ : x ≠ a1 ∧ x ≠ a2 := by simpa using hx
  calc (s.afterStores a1 v1 a2 v2 g c).busRead x
      = ((s.busWrite a1 v1).busWrite a2 v2).busRead x := rfl
    _ = (s.busWrite a1 v1).busRead x := State.busWrite_other h2 hx2
    _ = s.busRead x := State.busWrite_other h1 hx1

/-- PUSH in the terms of the statements: the high byte stored at SP - 1, the low byte at SP - 2, SP 2 lower. -/
theorem done_push16 (s : State) (v : Word) (c : Nat) :
    done c (s.push16 v) = .next (s.afterStores (s.regs.sp - 1) (hiByte v) (s.regs.sp - 2) (loByte v)
      { s.regs with sp := s.regs.sp - 2 } c) := by
  simp [State.push16_eq, State.afterStores, State.setSp, State.cost]

/-- A call in the terms of the statements: PC pushed, PC at the target. -/
theorem done_callTo (s : State) (a : Word) (c : Nat) :
    done c (s.callTo a) = .next (s.afterStores (s.regs.sp - 1) (hiByte s.regs.pc) (s.regs.sp - 2)
      (loByte s.regs.pc) { s.regs with sp := s.regs.sp - 2, pc := a } c) := by
  simp [State.callTo, State.push16_eq, State.afterStores, State.setSp, State.setPc, State.cost]

/-- PUSH of a pair stores its two bytes (R109, R110). -/
theorem pushPair_storesTwo (s : State) (rr : R16Stk) :
    s.storesTwo (pushPair rr s) (s.regs.sp - 1) (hiByte (s.regs.getStk rr)) (s.regs.sp - 2)
      (loByte (s.regs.getStk rr)) { s.regs with sp := s.regs.sp - 2 } 16 := by
  rw [pushPair, done_push16]
  exact s.storesTwo_afterStores ..

/-- A call stores the two bytes of the return address (R182, R187). -/
theorem callTo_storesTwo (s : State) (a : Word) (c : Nat) :
    s.storesTwo (done c (s.callTo a)) (s.regs.sp - 1) (upper s.regs.pc) (s.regs.sp - 2) (lower s.regs.pc)
      { s.regs with sp := s.regs.sp - 2, pc := a } c := by
  rw [done_callTo]
  exact s.storesTwo_afterStores ..

/-- The two bytes of the popped value (R13). -/
@[simp] theorem hiByte_stackTop (s : State) : hiByte s.stackTop = s.busRead (s.regs.sp + 1) := hiByte_concat _ _
@[simp] theorem loByte_stackTop (s : State) : loByte s.stackTop = s.busRead s.regs.sp := loByte_concat _ _

/-- Dropping bits 3..0 of a byte, in integers (R19). -/
theorem maskF_eq (v : Byte) : maskF v = BitVec.ofNat 8 (v.toNat / 16 * 16) := by
  revert v
  decide

theorem exec_callIf (cc : Cond) (a : Word) (s : State) : exec (.callIf cc a) s = callCond cc a s := by
  cases cc <;> rfl

theorem exec_retIf (cc : Cond) (s : State) : exec (.retIf cc) s = retCond cc s := by
  cases cc <;> rfl

theorem exec_rst (y : Fin 8) (s : State) : exec (.rst y) s = restart y s := by
  fin_cases y <;> rfl

end Sys2Proof.Machine

/-! ### The obligations -/

namespace Sys2Proof.Scope

open Sys2Proof Sys2Proof.Machine

/-- Settles O10: the session construction builds meets the invariant field by field, with all clocks at 0. -/
theorem constructionMeetsInvariant : Obligations.ConstructionMeetsInvariant := by
  unfold Obligations.ConstructionMeetsInvariant
  intro i rom hi hlegal
  have hsize : 0 < rom.size := hlegal.2.1
  exact ⟨i.build rom, State.construct_image hi hsize, SessionInputs.build_inv hlegal, i.build_clockOk rom⟩

/-- Settles O12: every part of a step, the prelude, the CPU's part, the devices and the trace, keeps the inputs. -/
theorem stepNeverChangesInputs : Obligations.StepNeverChangesInputs := by
  unfold Obligations.StepNeverChangesInputs
  intro s t h
  obtain ⟨hrom, hkind, hsize, hboot, hbuttons, hcfg⟩ := step_sameInputs h
  exact ⟨hrom, hkind, hsize, hboot, hbuttons, hcfg⟩

/-- Settles O5: the bytes at PC decode to what is fetched, and an instruction is as long as its encoding. -/
theorem stepRunsDecodedInstruction : Obligations.StepRunsDecodedInstruction := by
  unfold Obligations.StepRunsDecodedInstruction
  refine ⟨fun s i hk hi => ?_, State.decode_fetchInstr, fun s hrun hpend => ?_⟩
  · obtain rfl : s.fetchInstr = i := Except.ok.inj (s.decode_fetchInstr.symm.trans hi)
    obtain ⟨u, hu, -⟩ := exec_touch s.prelude.fetchInstr s.prelude.afterFetch
    have hstep : step s = .next (s.prelude.finishInstr u) := step_execute hk hu
    rw [State.afterFetch_eq, State.prelude_fetchInstr, State.prelude_regs] at hu
    rw [hstep, hu]
    rfl
  · have hp : s.prelude = s := State.prelude_of_running hrun hpend
    rw [hp]
    exact ⟨rfl, fun h => State.stepKind_of_running hrun (State.dispatched_eq_none h)⟩

/-- Settles O7: reset is the session of the default inputs, which are legal; its fields are as written. -/
theorem resetMeetsInvariant : Obligations.ResetMeetsInvariant := by
  unfold Obligations.ResetMeetsInvariant
  have hreset : (SessionInputs.defaults ⟨0x8000, []⟩).build ⟨0x8000, []⟩ = State.reset := rfl
  have hlegal : (SessionInputs.defaults ⟨0x8000, []⟩).legal ⟨0x8000, []⟩ := by decide
  have hinv : State.reset.Inv := hreset ▸ SessionInputs.build_inv hlegal
  have hclock : State.reset.clockOk := hreset ▸ SessionInputs.build_clockOk _ _
  have hconstruct : State.construct (.defaults ⟨0x8000, []⟩) = .ok State.reset :=
    hreset ▸ State.construct_image rfl (by decide)
  exact ⟨hinv, hclock, hconstruct, rfl, rfl, rfl, rfl, fun _ => rfl, rfl, rfl, rfl, rfl, rfl, rfl, rfl, rfl, rfl,
    blankFrame_pixel, rfl, rfl, rfl⟩

/-- Settles O11: the fields of `SessionInputs.build`, and `loadRom` on each input that is no ROM. -/
theorem constructionValues : Obligations.ConstructionValues := by
  unfold Obligations.ConstructionValues
  refine ⟨fun i rom hi hsize => ⟨i.build rom, State.construct_image hi hsize, ?_⟩,
    fun i => ⟨fun h => ?_, fun h => ?_, fun rom h hsize => ?_⟩⟩
  · have hboot : (i.build rom).bootActive = decide ((i.boot.getD ⟨0, []⟩).size ≠ 0) := by
      rw [Bool.eq_iff_iff]
      simp [SessionInputs.build, SessionInputs.bootImage]
    have heram : (i.build rom).cart.eram.size = i.extRamSize.getD
        (if 0x147 < rom.size ∧ rom.read 0x147 ∈ ([2, 3] : List Byte) then 0x8000 else 0) :=
      congrArg i.extRamSize.getD (defaultExtRamSize_eq rom)
    exact ⟨rfl, rfl, rfl, rfl, rfl, rfl, hboot, rfl, rfl, rfl, cartKindOf_eq rom, heram, rfl, rfl, rfl, rfl, rfl, rfl,
      rfl, rfl, rfl, rfl, rfl, blankFrame_pixel, rfl, rfl, rfl, rfl, constructionDiagnostics_eq rom, rfl, rfl⟩
  · exact State.construct_loadError (by simp [SessionInputs.loadRom, h])
  · exact State.construct_loadError (by simp [SessionInputs.loadRom, h])
  · exact State.construct_loadError (by simp [SessionInputs.loadRom, h, hsize])

/-- Settles O41: each PUSH is `pushPair` on its pair, whose two bytes are its two registers. -/
theorem pushPairs : Obligations.PushPairs := by
  unfold Obligations.PushPairs
  intro s
  have hpush := pushPair_storesTwo s
  have hbc := hpush .bc
  have hde := hpush .de
  have hhl := hpush .hl
  have haf := hpush .af
  simp only [Regs.getStk, hiByte_concat, loByte_concat] at hbc hde hhl haf
  exact ⟨hbc, hde, hhl, haf⟩

/-- Settles O42: each POP is `popPair` on its pair, which takes the popped value apart again. -/
theorem popPairs : Obligations.PopPairs := by
  unfold Obligations.PopPairs
  intro s
  have hpop (rr : R16Stk) : popPair rr s =
      .next { s with regs := { s.regs with sp := s.regs.sp + 2 }.putStk rr s.stackTop, cycles := 12 } := rfl
  refine ⟨(hpop .bc).trans ?_, (hpop .de).trans ?_, (hpop .hl).trans ?_, (hpop .af).trans ?_⟩
  all_goals simp [Regs.putStk, maskF_eq]

/-- Settles O53: each is `callTo`, taken or not by the condition. -/
theorem callsAndRestarts : Obligations.CallsAndRestarts := by
  unfold Obligations.CallsAndRestarts
  intro s a
  refine ⟨callTo_storesTwo s a 24, fun cc => ?_, fun y => ?_⟩
  · dsimp only
    rw [exec_callIf, callCond]
    split
    · exact callTo_storesTwo s a 24
    · rfl
  · dsimp only
    rw [exec_rst, restart, Nat.mul_comm]
    exact callTo_storesTwo s _ 16

/-- Settles O54: each is `returnToTop`, with IME set for RETI and the condition for RET cc. -/
theorem returns : Obligations.Returns := by
  unfold Obligations.Returns
  intro s
  refine ⟨rfl, rfl, fun cc => ?_⟩
  rw [exec_retIf, retCond]
  split <;> rfl

end Sys2Proof.Scope
end

section
/-! PROOFS. The invariant and the shared clock along a step, what a stored byte reads back as, and the loads of a
register pair: the statements O8, O9, O32 and O38. The lemmas about the model come first. -/

namespace Sys2Proof.Machine

open Sys2Proof

/-! ### The parts of a step (R204, R232)

A step is the prelude, the CPU's part, the advance of the devices, and the trace. -/

/-- What a step answers: the state `u` that the CPU's part leaves, advanced by the devices, and a trace. -/
theorem step_advances {s t : State} (h : step s = .next t) :
    ∃ u tr, Touch true s.prelude u ∧
      t = { u.advanceDevices with out := { u.advanceDevices.out with trace := tr } } := by
  obtain ⟨u, ⟨tr, ht⟩, hu⟩ := step_devices h
  exact ⟨u, tr, (step_touch hu).1, ht⟩

/-! ### What a step keeps of the invariant -/

/-- The prelude can leave Halted only, so it never locks the CPU (R204 (c)). -/
theorem State.prelude_inv {s : State} (h : s.Inv) : s.prelude.Inv := by
  obtain ⟨hmem, hcart, hcount, hf, hlock, hboot⟩ := h
  have hlock' : s.prelude.run = .locked → s.cfg.illegalOpcodeMode = .lock := by
    rcases s.prelude_run with hr | ⟨-, hr⟩
    · exact hr ▸ hlock
    · exact fun hl => nomatch hr.symm.trans hl
  rw [State.prelude_eq]
  exact ⟨hmem, hcart, hcount, hf, hlock', hboot⟩

/-- The CPU's part of a step keeps the invariant. -/
theorem Touch.inv {di : Bool} {s t : State} (h : Touch di s t) (hs : s.Inv) : t.Inv := by
  obtain ⟨hmem, ⟨hrom, hkind, hbank, heram⟩, hcount, hf, hlock, hboot⟩ := hs
  obtain ⟨hmem', hbank'⟩ := h.busInv ⟨hmem, hbank⟩
  have hcart : t.cartOk := by
    unfold State.cartOk
    rw [h.rom, h.kind, h.eramSize]
    exact ⟨hrom, hkind, hbank', heram⟩
  have hcount' : t.countersOk := by
    unfold State.countersOk
    rw [h.timer, h.ppu]
    exact hcount
  have hlock' : t.run = .locked → t.cfg.illegalOpcodeMode = .lock := by
    intro hl
    rw [h.cfg]
    rcases h.run with hr | hr | hr | ⟨-, hmode⟩
    · exact hlock (hr ▸ hl)
    · exact nomatch hr.symm.trans hl
    · exact nomatch hr.symm.trans hl
    · exact hmode
  have hboot' : t.bootActive = true → 0 < t.boot.size := fun ha => h.boot ▸ hboot (h.overlay ha)
  exact ⟨hmem', hcart, hcount', h.lowF hf, hlock', hboot'⟩

/-- The advance of the devices brings every counter into its range again (R32, R33, R216). -/
theorem State.advanceDevices_countersOk {s : State} (h : s.countersOk) : s.advanceDevices.countersOk := by
  obtain ⟨-, hs, -, -⟩ := h
  obtain ⟨-, hdiv, hly, hdot, hmode⟩ := s.advanceDevices_clock
  have hly' : s.advanceDevices.ppu.ly < 154 := by
    rw [hly]
    split
    · exact hs
    · exact Nat.mod_lt _ (by decide)
  exact ⟨hdiv ▸ Nat.mod_lt _ (by decide), hly', hdot ▸ Nat.mod_lt _ (by decide), hmode⟩

/-- The advance of the devices changes neither the cartridge nor the CPU, so it keeps the invariant. -/
theorem State.advanceDevices_inv {s : State} (h : s.Inv) : s.advanceDevices.Inv := by
  obtain ⟨hmem, hcart, hcount, hcpu⟩ := h
  have hframe := s.advanceDevices_frame
  have hcart' : s.advanceDevices.cartOk := by
    rw [hframe.same]
    exact hcart
  have hcpu' : s.advanceDevices.cpuOk := by
    rw [hframe.same]
    exact hcpu
  exact ⟨hframe.memories hmem, hcart', State.advanceDevices_countersOk hcount, hcpu'⟩

/-! ### What a step keeps of the clocks -/

theorem State.prelude_clockOk {s : State} (h : s.clockOk) : s.prelude.clockOk := by
  rw [State.prelude_eq]
  exact h

/-- The CPU's part of a step leaves the devices and the cycle count alone. -/
theorem Touch.clockOk {di : Bool} {s t : State} (h : Touch di s t) (hs : s.clockOk) : t.clockOk := by
  unfold State.clockOk
  rw [h.timer, h.ppu, h.totalCycles]
  exact hs

/-- The place in the frame after `c` more dots: a frame is 154 lines of 456 dots (R216, R217). -/
theorem framePlace_advance {ly dot : Nat} (c : Nat) (h : ly * 456 + dot < 70224) :
    (if dot + c < 456 then ly else (ly + (dot + c) / 456) % 154) * 456 + (dot + c) % 456 =
      (ly * 456 + dot + c) % 70224 := by
  split <;> omega

/-- The divider, the PPU and the cycle counter advance by the same cycles (R232). -/
theorem State.advanceDevices_clockOk {s : State} (h : s.clockOk) : s.advanceDevices.clockOk := by
  obtain ⟨hdiv, hplace⟩ := h
  obtain ⟨htotal', hdiv', hly', hdot', -⟩ := s.advanceDevices_clock
  have hframe : s.ppu.ly * 456 + s.ppu.dot < 70224 := hplace ▸ Nat.mod_lt _ (by decide)
  constructor
  · rw [hdiv', htotal', hdiv, Nat.mod_add_mod]
  · rw [hly', hdot', htotal', framePlace_advance _ hframe, hplace, Nat.mod_add_mod]

/-! ### Plain memory behind the bus (R27, R44, R47) -/

/-- VRAM, and everything from 0xC000 on, is outside the cartridge (R44). -/
theorem inCartWindow_eq_false {a : Word} (h : (0x8000 ≤ a.toNat ∧ a.toNat ≤ 0x9FFF) ∨ 0xC000 ≤ a.toNat) :
    inCartWindow a = false := by
  simp only [inCartWindow, Bool.or_eq_false_iff, Bool.and_eq_false_iff, decide_eq_false_iff_not]
  omega

/-- The overlay covers addresses of the cartridge only (R29, R48). -/
theorem State.overlaid_eq_false (s : State) {a : Word} (h : inCartWindow a = false) : s.overlaid a = false := by
  simp only [inCartWindow, Bool.or_eq_false_iff, decide_eq_false_iff_not] at h
  simp only [State.overlaid, Bool.and_eq_false_iff, decide_eq_false_iff_not]
  omega

/-- Outside the cartridge and the joypad register a read gives the byte of the backing array (R46). -/
theorem State.busRead_eq_raw (s : State) {a : Word} (hcart : inCartWindow a = false) (hjoyp : a ≠ ioJoyp) :
    s.busRead a = s.raw a :=
  State.busRead_plain (s.overlaid_eq_false hcart) hcart hjoyp

/-- A store to an address that R47 gives no effect of its own. -/
theorem State.busWriteNoDma_eq_setRaw (s : State) {a : Word} (v : Byte) (hcart : inCartWindow a = false)
    (h : a ∉ [ioJoyp, ioSc, ioDiv, ioBoot]) : s.busWriteNoDma a v = s.setRaw a v := by
  obtain ⟨hjoyp, hsc, hdiv, hboot⟩ : a ≠ ioJoyp ∧ a ≠ ioSc ∧ a ≠ ioDiv ∧ a ≠ ioBoot := by simpa using h
  simp [State.busWriteNoDma, s.overlaid_eq_false hcart, hcart, hjoyp, hsc, hdiv, hboot]

/-- The byte a store leaves in the backing array, the copy of OAM DMA apart: the one stored, but 0 in DIV under
DIV_WRITE_RESET (R47, R62). -/
theorem State.busWriteNoDma_raw_same (s : State) {a : Word} (v : Byte) (hcart : inCartWindow a = false)
    (hjoyp : a ≠ ioJoyp) (hdiv : a = ioDiv → s.cfg.divWriteReset = false) : (s.busWriteNoDma a v).raw a = v := by
  have hreset : ¬(a = ioDiv ∧ s.cfg.divWriteReset = true) := fun ⟨ha, ht⟩ => by simp [hdiv ha] at ht
  unfold State.busWriteNoDma
  rw [if_neg (by simp [s.overlaid_eq_false hcart]), if_neg (by simp [hcart]), if_neg hjoyp, if_neg hreset]
  split
  · split <;> exact s.raw_setRaw_same a v
  · split <;> exact s.raw_setRaw_same a v

/-! ### The copy of OAM DMA (R60, R227) -/

/-- The copy's addresses do not wrap. -/
theorem oamAddress_toNat {i : Nat} (hi : i < 160) : (BitVec.ofNat 16 (oamBase + i)).toNat = 0xFE00 + i := by
  simp only [oamBase, BitVec.toNat_ofNat]
  omega

/-- A byte of the copy lands in OAM, plain memory without an effect of its own. -/
theorem State.dmaCopy_eq_setRaw (s : State) (page : Byte) {i : Nat} (hi : i < 160) :
    s.dmaCopy page i =
      s.setRaw (BitVec.ofNat 16 (oamBase + i)) (s.busRead (concat page 0 + BitVec.ofNat 16 i)) := by
  have haddr := oamAddress_toNat hi
  have hcart : inCartWindow (BitVec.ofNat 16 (oamBase + i)) = false := inCartWindow_eq_false (by omega)
  have hio : ∀ a ∈ [ioJoyp, ioSc, ioDiv, ioBoot], 0xFE9F < a.toNat := by
    simp [ioJoyp, ioSc, ioDiv, ioBoot]
  have hplain : BitVec.ofNat 16 (oamBase + i) ∉ [ioJoyp, ioSc, ioDiv, ioBoot] := by
    intro hmem
    have := hio _ hmem
    omega
  exact s.busWriteNoDma_eq_setRaw _ hcart hplain

theorem State.dmaCopy_raw (s : State) (page : Byte) {i : Nat} (hi : i < 160) {x : Word}
    (hx : x.toNat < 0xFE00 ∨ 0xFE9F < x.toNat) : (s.dmaCopy page i).raw x = s.raw x := by
  have haddr := oamAddress_toNat hi
  have hne : x ≠ BitVec.ofNat 16 (oamBase + i) := by
    rintro rfl
    omega
  rw [s.dmaCopy_eq_setRaw page hi, State.raw_setRaw, if_neg hne]

theorem State.dmaFold_raw (page : Byte) {x : Word} (hx : x.toNat < 0xFE00 ∨ 0xFE9F < x.toNat) (l : List Nat)
    (hl : ∀ i ∈ l, i < 160) (s : State) : (l.foldl (State.dmaCopy page) s).raw x = s.raw x := by
  induction l generalizing s with
  | nil => rfl
  | cons i l ih =>
    obtain ⟨hi, hl⟩ := List.forall_mem_cons.mp hl
    exact (ih hl _).trans (s.dmaCopy_raw page hi hx)

/-- The copy changes bytes of OAM only. -/
theorem State.oamDma_raw (s : State) (page : Byte) {x : Word} (hx : x.toNat < 0xFE00 ∨ 0xFE9F < x.toNat) :
    (s.oamDma page).raw x = s.raw x :=
  State.dmaFold_raw page hx _ (fun _ => List.mem_range.mp) s

/-- A stored byte stands in the backing array, also at 0xFF46, whose copy goes to OAM (R47, R60). -/
theorem State.busWrite_raw_same (s : State) {a : Word} (v : Byte) (hcart : inCartWindow a = false)
    (hjoyp : a ≠ ioJoyp) (hdiv : a = ioDiv → s.cfg.divWriteReset = false) : (s.busWrite a v).raw a = v := by
  unfold State.busWrite
  split
  · next hdma =>
    subst hdma
    rw [State.oamDma_raw _ _ (by decide), State.raw_setRaw_same]
  · exact s.busWriteNoDma_raw_same v hcart hjoyp hdiv

/-- A store to plain memory stores the byte and has no other effect (R47, R67, R72). -/
theorem State.busWrite_eq_setRaw (s : State) {a : Word} (v : Byte) (hcart : inCartWindow a = false)
    (h : a ∉ [ioJoyp, ioSc, ioDiv, ioDma, ioBoot]) : s.busWrite a v = s.setRaw a v := by
  obtain ⟨hjoyp, hsc, hdiv, hdma, hboot⟩ : a ≠ ioJoyp ∧ a ≠ ioSc ∧ a ≠ ioDiv ∧ a ≠ ioDma ∧ a ≠ ioBoot := by
    simpa using h
  rw [State.busWrite, if_neg hdma, s.busWriteNoDma_eq_setRaw v hcart (by simp [hjoyp, hsc, hdiv, hboot])]

/-- A store that the overlay hides is dropped (R47, R48): 0xFF46 is never under the overlay. -/
theorem State.busWrite_overlaid {s : State} {a : Word} (v : Byte) (h : s.overlaid a = true) : s.busWrite a v = s := by
  have hdma : a ≠ ioDma := by
    rintro rfl
    exact absurd h (by simp [s.overlaid_eq_false (a := ioDma) (by decide)])
  rw [State.busWrite, if_neg hdma, State.busWriteNoDma, if_pos h]

/-- A read under the overlay gives the boot image's byte (R46, R48). -/
theorem State.busRead_overlaid {s : State} {a : Word} (h : s.overlaid a = true) : s.busRead a = s.boot.read a.toNat :=
  if_pos h

end Sys2Proof.Machine

/-! ### The obligations -/

namespace Sys2Proof.Scope

open Sys2Proof Sys2Proof.Machine

/-- Settles O8: the prelude, the CPU's part and the devices each keep the invariant; the trace is no part of it. -/
theorem stepKeepsInvariant : Obligations.StepKeepsInvariant := by
  unfold Obligations.StepKeepsInvariant
  intro s t hs h
  obtain ⟨u, tr, hu, rfl⟩ := step_advances h
  exact State.advanceDevices_inv (hu.inv (State.prelude_inv hs))

/-- Settles O9: the CPU's part leaves the clocks alone, and the devices move them all by the same cycles. -/
theorem stepKeepsClocksTogether : Obligations.StepKeepsClocksTogether := by
  unfold Obligations.StepKeepsClocksTogether
  intro s t hs h
  obtain ⟨u, tr, hu, rfl⟩ := step_advances h
  exact State.advanceDevices_clockOk (hu.clockOk (State.prelude_clockOk hs))

/-- Settles O32: plain addresses are outside the cartridge, so the bus reaches the backing array there. -/
theorem storedByteReadsBack : Obligations.StoredByteReadsBack := by
  unfold Obligations.StoredByteReadsBack
  refine ⟨fun s a v ha hjoyp hdiv => ?_, fun s a v h x hx => ?_, fun s a v hactive ha => ?_,
    fun s a v ha hjoyp => ⟨?_, fun h => ?_⟩, fun _ _ _ => rfl,
    fun m a x v => m.read_write a v x⟩
  · have hcart := inCartWindow_eq_false ha
    rw [State.busRead_eq_raw _ hcart hjoyp, State.busWrite_raw_same s v hcart hjoyp hdiv]
  · exact State.busWrite_other h (by simpa using hx)
  · have hover : s.overlaid a = true := by simpa [State.overlaid, hactive] using ha
    exact ⟨State.busRead_overlaid hover, State.busWrite_overlaid v hover⟩
  · exact s.busRead_eq_raw (inCartWindow_eq_false ha) hjoyp
  · exact s.busWrite_eq_setRaw v (inCartWindow_eq_false ha) (List.not_mem_cons_of_ne_of_not_mem hjoyp h)

/-- Settles O38: each is the write of a pair, whose two bytes are its two registers. -/
theorem loadPair : Obligations.LoadPair := by
  unfold Obligations.LoadPair
  intro s v
  have hpair (rr : R16) : ldPair rr v s = .next { s with regs := s.regs.put16 rr v, cycles := 12 } := rfl
  exact ⟨hpair .bc, hpair .de, hpair .hl, hpair .sp, rfl⟩

end Sys2Proof.Scope
end

section
/-! PROOFS. Writes and reads of the cartridge, the intercepted I/O registers, the end of the boot overlay, the copy
of OAM DMA, and the store of SP: the statements O13, O30, O31, O33, O34 and O40. The lemmas about the model come
first. -/

namespace Sys2Proof.Machine

open Sys2Proof

/-! ### The boot overlay ends for good (R61) -/

/-- The devices leave the overlay alone (R214, R217). -/
theorem State.advanceDevices_bootActive (s : State) : s.advanceDevices.bootActive = s.bootActive := by
  rw [s.advanceDevices_frame.same]

/-- What never turns the overlay on leaves it off once it is off. -/
theorem State.bootActive_false_of_overlay {s t : State} (hoverlay : t.bootActive = true → s.bootActive = true)
    (h : s.bootActive = false) : t.bootActive = false := by
  by_contra hon
  have hactive : s.bootActive = true := hoverlay (by simpa using hon)
  simp [h] at hactive

/-- A bus write keeps an ended overlay off (R61). -/
theorem State.busWrite_bootActive_false {s : State} (h : s.bootActive = false) (a : Word) (v : Byte) :
    (s.busWrite a v).bootActive = false :=
  State.bootActive_false_of_overlay (s.busWrite_busFrame a v).overlay h

/-- A step keeps an ended overlay off: none of its parts turns it on (R61, R204). -/
theorem step_bootActive_false {s t : State} (h : s.bootActive = false) (hstep : step s = .next t) :
    t.bootActive = false := by
  obtain ⟨u, tr, hu, rfl⟩ := step_advances hstep
  have hprelude : s.prelude.bootActive = false := by
    rw [State.prelude_eq]
    exact h
  have hcpu : u.bootActive = false := State.bootActive_false_of_overlay hu.overlay hprelude
  exact u.advanceDevices_bootActive.trans hcpu

/-! ### The I/O registers that the bus intercepts (R58, R59, R61, R62) -/

/-- Outside the cartridge a store that starts no copy goes to the I/O registers or plain memory (R47). -/
theorem State.busWrite_io (s : State) {a : Word} (v : Byte) (hcart : inCartWindow a = false) (hdma : a ≠ ioDma) :
    s.busWrite a v =
      if a = ioJoyp then { s with joypSelect := v.extractLsb' 4 2 }
      else if a = ioSc then
        if v = serialStart then (s.setRaw a v).serialEmit (s.raw ioSb) else s.setRaw a v
      else if a = ioDiv ∧ s.cfg.divWriteReset = true then s.setRaw a 0
      else if a = ioBoot then { s.setRaw a v with bootActive := s.bootActive && v == 0 }
      else s.setRaw a v := by
  simp only [State.busWrite, if_neg hdma, State.busWriteNoDma, s.overlaid_eq_false hcart, hcart, Bool.false_eq_true,
    if_false]

/-- A store to 0xFF00 (R58). -/
theorem State.busWrite_joyp (s : State) (v : Byte) :
    s.busWrite ioJoyp v = { s with joypSelect := v.extractLsb' 4 2 } := by
  rw [s.busWrite_io v (by decide) (by decide), if_pos rfl]

/-- A store to 0xFF02 (R59). -/
theorem State.busWrite_sc (s : State) (v : Byte) :
    s.busWrite ioSc v = { s with
      mem := s.mem.write ioSc.toNat v
      out := { s.out with
        serial := if v = serialStart then s.out.serial ++ [s.raw ioSb] else s.out.serial } } := by
  rw [s.busWrite_io v (by decide) (by decide), if_neg (by decide), if_pos rfl]
  split <;> rfl

/-- A store to 0xFF04 (R62). -/
theorem State.busWrite_div (s : State) (v : Byte) :
    s.busWrite ioDiv v = s.setRaw ioDiv (if s.cfg.divWriteReset then 0 else v) := by
  rw [s.busWrite_io v (by decide) (by decide), if_neg (by decide), if_neg (by decide)]
  cases s.cfg.divWriteReset
  · simp [ioDiv, ioBoot]
  · simp

/-- A store to 0xFF50 (R61). -/
theorem State.busWrite_boot_register (s : State) (v : Byte) :
    s.busWrite ioBoot v = { s.setRaw ioBoot v with bootActive := if v = 0 then s.bootActive else false } := by
  rw [s.busWrite_io v (by decide) (by decide), if_neg (by decide), if_neg (by decide),
    if_neg fun h => absurd h.1 (by decide), if_pos rfl]
  by_cases hv : v = 0
  · simp [hv]
  · rw [if_neg hv, beq_eq_false_iff_ne.mpr hv, Bool.and_false]

/-- A read of 0xFF00 is composed from the selection and the buttons (R58). -/
theorem State.busRead_joyp (s : State) : s.busRead ioJoyp = joypRead s.joypSelect s.buttons := by
  have hcart : inCartWindow ioJoyp = false := by decide
  simp [State.busRead, s.overlaid_eq_false hcart, hcart]

/-- Bits 7 and 6 of the composed joypad byte read 1. -/
theorem joypRead_high (select : BitVec 2) (buttons : Byte) :
    (joypRead select buttons).getLsbD 7 = true ∧ (joypRead select buttons).getLsbD 6 = true := by
  constructor <;> rw [joypRead, BitVec.getLsbD_append, if_neg (by decide), BitVec.getLsbD_append] <;> rfl

/-- Bits 5..4 are the selection. -/
theorem joypRead_select (select : BitVec 2) (buttons : Byte) :
    (joypRead select buttons).extractLsb' 4 2 = select := by
  apply BitVec.eq_of_getLsbD_eq
  intro i hi
  have hselect : 4 + i - 4 = i := Nat.add_sub_cancel_left ..
  rw [BitVec.getLsbD_extractLsb', joypRead, BitVec.getLsbD_append, if_neg (by omega), hselect, BitVec.getLsbD_append,
    if_pos hi, decide_eq_true hi, Bool.true_and]

/-- Bits 3..0 are low where a selected group has the button pressed. -/
theorem joypRead_low (select : BitVec 2) (buttons : Byte) {i : Nat} (hi : i < 4) :
    (joypRead select buttons).getLsbD i =
      ((select.getLsbD 0 || !buttons.getLsbD i) && (select.getLsbD 1 || !buttons.getLsbD (i + 4))) := by
  have hgroup (b : Bool) (k : Nat) :
      (if b = true then 0xF else ~~~ buttons.extractLsb' k 4 : BitVec 4).getLsbD i =
        (b || !buttons.getLsbD (k + i)) := by
    cases b
    · simp [hi]
    · show (BitVec.allOnes 4).getLsbD i = true
      rw [BitVec.getLsbD_allOnes, decide_eq_true hi]
  rw [joypRead, BitVec.getLsbD_append, if_pos hi, joypLow, BitVec.getLsbD_and, hgroup, hgroup, Nat.zero_add,
    Nat.add_comm 4 i]

/-! ### The cartridge behind the bus (R44, R46, R47, R50 to R57) -/

/-- 0x0000..0x7FFF and 0xA000..0xBFFF are the cartridge's (R44). -/
theorem inCartWindow_eq_true {a : Word} (h : a.toNat ≤ 0x7FFF ∨ (0xA000 ≤ a.toNat ∧ a.toNat ≤ 0xBFFF)) :
    inCartWindow a = true := by
  simpa [inCartWindow] using h

/-- A store that the overlay does not hide goes to the cartridge, and to nothing else (R47). -/
theorem State.busWrite_cart {s : State} {a : Word} (v : Byte) (ho : s.overlaid a = false)
    (hcart : inCartWindow a = true) : s.busWrite a v = { s with cart := s.cart.write a.toNat v } := by
  have hdma : a ≠ ioDma := by
    rintro rfl
    exact absurd hcart (by decide)
  simp [State.busWrite, State.busWriteNoDma, hdma, ho, hcart]

/-- A read that the overlay does not cover asks the cartridge (R46). -/
theorem State.busRead_cart {s : State} {a : Word} (ho : s.overlaid a = false) (hcart : inCartWindow a = true) :
    s.busRead a = s.cart.read a.toNat := by
  simp [State.busRead, ho, hcart]

/-- The number of the switchable ROM bank is 1..127 while the low bank number is nonzero (R52). -/
theorem Cart.romBankEff_range {c : Cart} (h : c.bankLo ≠ 0) : 1 ≤ c.romBankEff ∧ c.romBankEff ≤ 127 := by
  have hlo : c.bankLo.toNat ≠ 0 := fun hz => h (BitVec.eq_of_toNat_eq hz)
  have hlt := c.bankLo.isLt
  have hhi := c.bankHi.isLt
  unfold Cart.romBankEff
  split <;> omega

/-- The external RAM of an MBC1 cartridge answers where it is enabled and present (R52, R57). -/
theorem Cart.ramOpen_mbc1 {c : Cart} (h : c.kind = .mbc1) :
    c.ramOpen = true ↔ c.ramEnable = true ∧ 0 < c.eram.size := by
  simp [Cart.ramOpen, h, Nat.pos_iff_ne_zero]

/-- Without a controller no external RAM answers (R50). -/
theorem Cart.ramOpen_noMbc {c : Cart} (h : c.kind = .noMbc) : c.ramOpen = false := by
  simp [Cart.ramOpen, h]

/-- The low bank number that R54 stores, in integers. -/
theorem bankLo_normalized (v : Byte) :
    (if v.setWidth 5 = 0 then 1 else v.setWidth 5 : BitVec 5) =
      if v.toNat % 32 = 0 then 1 else BitVec.ofNat 5 v.toNat := by
  have hzero : v.setWidth 5 = 0 ↔ v.toNat % 32 = 0 := by
    rw [← BitVec.toNat_inj, BitVec.toNat_setWidth]
    rfl
  rw [BitVec.ofNat_toNat]
  exact if_congr hzero rfl rfl

/-- The MBC1 registers and external RAM by address, in integers (R53 to R57). -/
theorem Cart.write_mbc1 {c : Cart} (h : c.kind = .mbc1) (x : Nat) (v : Byte) :
    c.write x v =
      if x ≤ 0x1FFF then { c with ramEnable := decide (v.toNat % 16 = 0xA) }
      else if x ≤ 0x3FFF then
        { c with bankLo := if v.toNat % 32 = 0 then 1 else BitVec.ofNat 5 v.toNat }
      else if x ≤ 0x5FFF then
        if c.bankMode then { c with ramBank := BitVec.ofNat 2 v.toNat } else { c with bankHi := BitVec.ofNat 2 v.toNat }
      else if x ≤ 0x7FFF then { c with bankMode := decide (v.toNat % 2 = 1) }
      else if c.ramEnable = true ∧ 0 < c.eram.size then { c with eram := c.eram.write (c.ramOffset x) v }
      else c := by
  have hmode : v.getLsbD 0 = decide (v.toNat % 2 = 1) := by simpa using getLsbD_eq_div v 0
  simp only [Cart.write, h, Cart.writeMbc1, bankLo_normalized, hmode, Cart.ramOpen_mbc1 h, BitVec.ofNat_toNat]
  rfl

/-! ### What the copy of OAM DMA leaves (R60, R227) -/

/-- Where a byte of the copy is read, in integers. -/
theorem dmaSource_eq (page : Byte) (i : Nat) :
    concat page 0 + BitVec.ofNat 16 i = BitVec.ofNat 16 (page.toNat * 256 + i) := by
  have hpage : concat page 0 = BitVec.ofNat 16 (page.toNat * 256) := by
    revert page
    decide
  rw [hpage, BitVec.ofNat_add]

/-- The copy changes the backing array only. -/
theorem State.dmaFold_eq (page : Byte) (l : List Nat) (hl : ∀ i ∈ l, i < 160) (s : State) :
    l.foldl (State.dmaCopy page) s = { s with mem := (l.foldl (State.dmaCopy page) s).mem } := by
  induction l generalizing s with
  | nil => rfl
  | cons i l ih =>
    obtain ⟨hi, hl⟩ := List.forall_mem_cons.mp hl
    have := ih hl (s.dmaCopy page i)
    rw [List.foldl_cons, this, s.dmaCopy_eq_setRaw page hi]
    rfl

/-- A read after one byte of the copy: the byte copied to, or as before. -/
theorem State.busRead_dmaCopy (s : State) (page : Byte) {i : Nat} (hi : i < 160) (x : Word) :
    (s.dmaCopy page i).busRead x =
      if x.toNat = 0xFE00 + i then s.busRead (BitVec.ofNat 16 (page.toNat * 256 + i)) else s.busRead x := by
  have haddr := oamAddress_toNat hi
  rw [s.dmaCopy_eq_setRaw page hi, dmaSource_eq page i]
  split
  · next hx =>
    obtain rfl : x = BitVec.ofNat 16 (oamBase + i) := BitVec.eq_of_toNat_eq (hx.trans haddr.symm)
    have hjoyp : BitVec.ofNat 16 (oamBase + i) ≠ ioJoyp := fun h => by
      have : ioJoyp.toNat = 0xFE00 + i := h ▸ haddr
      have : ioJoyp.toNat = 0xFF00 := rfl
      omega
    rw [State.busRead_eq_raw _ (inCartWindow_eq_false (by omega)) hjoyp, State.raw_setRaw_same]
  · next hx =>
    exact State.busRead_setRaw_other _ fun h => hx (h ▸ haddr)

/-- What every address reads after the first `n` bytes of the copy. No source byte
is overwritten before it is read: only the sources of page 0xFE are in OAM, and there each byte is copied to itself. -/
theorem State.busRead_dmaFold (s : State) (page : Byte) {n : Nat} (hn : n ≤ 160) (x : Word) :
    ((List.range n).foldl (State.dmaCopy page) s).busRead x =
      if 0xFE00 ≤ x.toNat ∧ x.toNat < 0xFE00 + n then
        s.busRead (BitVec.ofNat 16 (page.toNat * 256 + (x.toNat - 0xFE00)))
      else s.busRead x := by
  induction n generalizing x with
  | zero => simp
  | succ n ih =>
    have hsource : (BitVec.ofNat 16 (page.toNat * 256 + n)).toNat = page.toNat * 256 + n := by
      have := page.isLt
      rw [BitVec.toNat_ofNat]
      omega
    rw [List.range_succ, List.foldl_append, List.foldl_cons, List.foldl_nil, State.busRead_dmaCopy _ _ hn,
      ih (by omega), ih (by omega), hsource]
    by_cases hx : x.toNat = 0xFE00 + n
    · rw [if_pos hx, if_neg (by omega), if_pos (by omega), hx, Nat.add_sub_cancel_left]
    · rw [if_neg hx]
      exact if_congr (by omega) rfl rfl

/-- A store to 0xFF46 stores the byte, then copies (R47, R60). -/
theorem State.busWrite_dma (s : State) (v : Byte) : s.busWrite ioDma v = (s.setRaw ioDma v).oamDma v := if_pos rfl

/-- What every address reads after a store to 0xFF46 (R60). -/
theorem State.busRead_busWrite_dma (s : State) (v : Byte) (x : Word) :
    (s.busWrite ioDma v).busRead x =
      if 0xFE00 ≤ x.toNat ∧ x.toNat < 0xFE00 + 160 then
        (s.setRaw ioDma v).busRead (BitVec.ofNat 16 (v.toNat * 256 + (x.toNat - 0xFE00)))
      else (s.setRaw ioDma v).busRead x := by
  rw [State.busWrite_dma]
  exact State.busRead_dmaFold _ v (le_refl 160) x

/-- A store to 0xFF46 changes the backing array only (R60). -/
theorem State.busWrite_dma_eq (s : State) (v : Byte) :
    s.busWrite ioDma v = { s with mem := (s.busWrite ioDma v).mem } := by
  rw [State.busWrite_dma]
  exact State.dmaFold_eq v (List.range dmaLength) (fun _ => List.mem_range.mp) (s.setRaw ioDma v)

/-! ### A store of two bytes (R11, R63) -/

/-- A 16-bit store in the terms of the statements: the low byte first, the high byte at the next address. -/
theorem done_busWrite16 (s : State) (a v : Word) (c : Nat) :
    done c (s.busWrite16 a v) = .next (s.afterStores a (loByte v) (a + 1) (hiByte v) s.regs c) := by
  simp [State.busWrite16, State.afterStores, State.cost]

end Sys2Proof.Machine

/-! ### The obligations -/

namespace Sys2Proof.Scope

open Sys2Proof Sys2Proof.Machine

/-- Settles O13: the write is one equation, and neither a bus write nor a part of a step turns the overlay on. -/
theorem bootDisableIsPermanent : Obligations.BootDisableIsPermanent := by
  unfold Obligations.BootDisableIsPermanent
  refine ⟨fun s v => ⟨?_, s.busWrite_boot_register v⟩, fun _ a v h => State.busWrite_bootActive_false h a v,
    fun _ _ => step_bootActive_false⟩
  rw [State.busRead_eq_raw _ (by decide) (by decide),
    State.busWrite_raw_same s v (by decide) (by decide) fun h => absurd h (by decide)]

/-- Settles O33: by induction on the number of bytes copied, every address reads its source or as before. -/
theorem oamDmaCopies : Obligations.OamDmaCopies := by
  unfold Obligations.OamDmaCopies
  intro s v
  refine ⟨s.busWrite_dma_eq v, ?_, fun k hk => ?_, fun a hdma ha => ?_⟩
  · rw [State.busRead_eq_raw _ (by decide) (by decide),
      State.busWrite_raw_same s v (by decide) (by decide) fun h => absurd h (by decide)]
  · have hoam : (BitVec.ofNat 16 (0xFE00 + k)).toNat = 0xFE00 + k := oamAddress_toNat hk
    refine (s.busRead_busWrite_dma v _).trans ?_
    rw [hoam, if_pos (by omega), Nat.add_sub_cancel_left]
    rfl
  · refine (s.busRead_busWrite_dma v a).trans ?_
    rw [if_neg (by omega)]
    exact State.busRead_setRaw_other v hdma

/-- Settles O30: a write is the cartridge's own, which is given by address; the low bank number stays nonzero. -/
theorem cartridgeWrites : Obligations.CartridgeWrites := by
  unfold Obligations.CartridgeWrites
  intro s a v ho x c bank hx
  have hwrite : s.busWrite a v = { s with cart := s.cart.write a.toNat v } :=
    State.busWrite_cart v ho (inCartWindow_eq_true hx)
  rw [hwrite]
  refine ⟨fun hkind => ?_, fun hkind => ?_, fun hlo => ?_⟩
  · rw [Cart.write, hkind]
  · rw [Cart.write_mbc1 hkind]
    rfl
  · have hlo' : (s.cart.write a.toNat v).bankLo ≠ 0 := Cart.write_bankLo hlo _ v
    exact ⟨hlo', Nat.ne_of_gt (Cart.romBankEff_range hlo').1⟩

/-- Settles O31: a read is the cartridge's own, at the offset of its controller. -/
theorem cartridgeReads : Obligations.CartridgeReads := by
  unfold Obligations.CartridgeReads
  intro s a ho hlo x c romBank ramBank
  have hread (hx : x ≤ 0x7FFF ∨ (0xA000 ≤ x ∧ x ≤ 0xBFFF)) : s.busRead a = c.read x :=
    State.busRead_cart ho (inCartWindow_eq_true hx)
  refine ⟨Cart.romBankEff_range hlo, fun hx => ?_, fun hlow hhigh => ?_, fun hlow hhigh => ?_⟩
  · rw [hread (by omega), Cart.read, if_pos (by omega), Cart.romOffset]
    split
    · rfl
    · rw [if_pos hx]
  · rw [hread (by omega), Cart.read, if_pos hhigh, Cart.romOffset]
    cases c.kind
    · rfl
    · rw [if_neg (by omega)]
      rfl
  · rw [hread (by omega), Cart.read, if_neg (by omega)]
    cases hkind : c.kind
    · simp [Cart.ramOpen_noMbc hkind]
    · exact if_congr (Cart.ramOpen_mbc1 hkind) rfl rfl

/-- Settles O34: each register has its own equation for a store, and the joypad's composed byte one per bit. -/
theorem interceptedIoRegisters : Obligations.InterceptedIoRegisters := by
  unfold Obligations.InterceptedIoRegisters
  intro s v
  have hjoyp : s.busRead 0xFF00 = joypRead s.joypSelect s.buttons := s.busRead_joyp
  obtain ⟨h7, h6⟩ := joypRead_high s.joypSelect s.buttons
  rw [hjoyp]
  exact ⟨s.busWrite_joyp v, h7, h6, joypRead_select _ _, fun i hi => joypRead_low _ _ hi, s.busWrite_sc v,
    s.busWrite_div v⟩

/-- Settles O40: the instruction is a 16-bit store, which is two bus writes in this order. -/
theorem storeStackPointer : Obligations.StoreStackPointer := by
  unfold Obligations.StoreStackPointer
  intro s a
  have hexec : exec (.ldAtA16SP a) s = done 20 (s.busWrite16 a s.regs.sp) := rfl
  rw [hexec, done_busWrite16]
  exact s.storesTwo_afterStores ..

end Sys2Proof.Scope
end

section
/-! PROOFS. The decoder and the encoder: that each inverts the other, the words of the opcode tables, the length told
from the first byte, and the CB page run by the byte 0xCB alone: the statements O1 to O4 and O60. -/

namespace Sys2Proof.Laws

open Sys2Proof

/-- Every instruction round-trips: the recursor applied to the law of each constructor, in their order. -/
theorem RoundTrip.all : ∀ i : Instr, RoundTrip.Statement i :=
  @Instr.rec RoundTrip.Statement
    ldBCN16 ldBN8 ldAtA16SP ldCN8 stop ldDEN16 ldDN8 jrE8 ldEN8 jrNZE8 ldHLN16 ldHN8 jrZE8 ldLN8 jrNCE8 ldSPN16
    ldAtHLN8 jrCE8 ldAN8 jpNZA16 jpA16 callNZA16 addAN8 jpZA16 callZA16 callA16 adcAN8 jpNCA16 callNCA16 subN8
    jpCA16 callCA16 sbcAN8 ldhAtA8A andN8 addSPE8 ldAtA16A xorN8 ldhAAtA8 orN8 ldHLSPE8 ldAAtA16 cpN8 nop
    ldAtBCA incBC incB decB rlca addHLBC ldAAtBC decBC incC decC rrca ldAtDEA incDE incD decD rla addHLDE
    ldAAtDE decDE incE decE rra ldAtHLIA incHL incH decH daa addHLHL ldAAtHLI decHL incL decL cpl ldAtHLDA incSP
    incAtHL decAtHL scf addHLSP ldAAtHLD decSP incA decA ccf ldBB ldBC ldBD ldBE ldBH ldBL ldBAtHL ldBA ldCB
    ldCC ldCD ldCE ldCH ldCL ldCAtHL ldCA ldDB ldDC ldDD ldDE ldDH ldDL ldDAtHL ldDA ldEB ldEC ldED ldEE ldEH
    ldEL ldEAtHL ldEA ldHB ldHC ldHD ldHE ldHH ldHL ldHAtHL ldHA ldLB ldLC ldLD ldLE ldLH ldLL ldLAtHL ldLA
    ldAtHLB ldAtHLC ldAtHLD ldAtHLE ldAtHLH ldAtHLL halt ldAtHLA ldAB ldAC ldAD ldAE ldAH ldAL ldAAtHL ldAA
    addAB addAC addAD addAE addAH addAL addAAtHL addAA adcAB adcAC adcAD adcAE adcAH adcAL adcAAtHL adcAA subB
    subC subD subE subH subL subAtHL subA sbcAB sbcAC sbcAD sbcAE sbcAH sbcAL sbcAAtHL sbcAA andB andC andD andE
    andH andL andAtHL andA xorB xorC xorD xorE xorH xorL xorAtHL xorA orB orC orD orE orH orL orAtHL orA cpB cpC
    cpD cpE cpH cpL cpAtHL cpA retNZ popBC pushBC rst00 retZ ret prefixCB rst08 retNC popDE illegalD3 pushDE
    rst10 retC reti illegalDB illegalDD rst18 popHL ldAtCA illegalE3 illegalE4 pushHL rst20 jpHL illegalEB
    illegalEC illegalED rst28 popAF ldAAtC di illegalF4 pushAF rst30 ldSPHL ei illegalFC illegalFD rst38 rlcB
    rlcC rlcD rlcE rlcH rlcL rlcAtHL rlcA rrcB rrcC rrcD rrcE rrcH rrcL rrcAtHL rrcA rlB rlC rlD rlE rlH rlL
    rlAtHL rlA rrB rrC rrD rrE rrH rrL rrAtHL rrA slaB slaC slaD slaE slaH slaL slaAtHL slaA sraB sraC sraD sraE
    sraH sraL sraAtHL sraA swapB swapC swapD swapE swapH swapL swapAtHL swapA srlB srlC srlD srlE srlH srlL
    srlAtHL srlA bit0B bit0C bit0D bit0E bit0H bit0L bit0AtHL bit0A bit1B bit1C bit1D bit1E bit1H bit1L bit1AtHL
    bit1A bit2B bit2C bit2D bit2E bit2H bit2L bit2AtHL bit2A bit3B bit3C bit3D bit3E bit3H bit3L bit3AtHL bit3A
    bit4B bit4C bit4D bit4E bit4H bit4L bit4AtHL bit4A bit5B bit5C bit5D bit5E bit5H bit5L bit5AtHL bit5A bit6B
    bit6C bit6D bit6E bit6H bit6L bit6AtHL bit6A bit7B bit7C bit7D bit7E bit7H bit7L bit7AtHL bit7A res0B res0C
    res0D res0E res0H res0L res0AtHL res0A res1B res1C res1D res1E res1H res1L res1AtHL res1A res2B res2C res2D
    res2E res2H res2L res2AtHL res2A res3B res3C res3D res3E res3H res3L res3AtHL res3A res4B res4C res4D res4E
    res4H res4L res4AtHL res4A res5B res5C res5D res5E res5H res5L res5AtHL res5A res6B res6C res6D res6E res6H
    res6L res6AtHL res6A res7B res7C res7D res7E res7H res7L res7AtHL res7A set0B set0C set0D set0E set0H set0L
    set0AtHL set0A set1B set1C set1D set1E set1H set1L set1AtHL set1A set2B set2C set2D set2E set2H set2L
    set2AtHL set2A set3B set3C set3D set3E set3H set3L set3AtHL set3A set4B set4C set4D set4E set4H set4L
    set4AtHL set4A set5B set5C set5D set5E set5H set5L set5AtHL set5A set6B set6C set6D set6E set6H set6L
    set6AtHL set6A set7B set7C set7D set7E set7H set7L set7AtHL set7A

end Sys2Proof.Laws

namespace Sys2Proof.Machine

open Sys2Proof

/-! ### Decoding what was encoded (R73, R84) -/

theorem wellFormed_iff_ne_prefixCB (i : Instr) : i.wellFormed = true ↔ i ≠ .prefixCB := by
  simp [Instr.wellFormed, Instr.isBarePrefix]

/-- What a decoded byte list holds, `prefixCB` apart: the instruction its first three bytes stand for. -/
theorem decode3_of_decode_eq_ok {b0 : Byte} {rest : List Byte} {i : Instr} (hi : i ≠ .prefixCB)
    (h : decode (b0 :: rest) = .ok i) : decode3 b0 (rest.getD 0 0) (rest.getD 1 0) = i := by
  rw [decode] at h
  split_ifs at h
  · exact absurd (Except.ok.inj h).symm hi
  · exact Except.ok.inj h

/-- A list shorter than its first byte says is truncated, the byte 0xCB apart (R84). -/
theorem decode_eq_truncated {b0 : Byte} {rest : List Byte} (hcb : b0 ≠ 0xCB) (h : rest.length + 1 < lengthOf b0) :
    decode (b0 :: rest) = .error (.truncated b0) := by
  rw [decode, if_neg fun hb => hcb hb.1, if_pos h]

/-- The encoding of an instruction is as long as its first byte says (R84): it decodes to the instruction, and
three bytes decode to an instruction of that length. -/
theorem encode_length_eq_lengthOf {i : Instr} (hi : i.wellFormed = true) :
    (encode i).length = lengthOf ((encode i).headD 0) := by
  have hdecode : decode (encode i ++ []) = .ok i := Laws.RoundTrip.all i hi []
  rw [List.append_nil] at hdecode
  cases hw : encode i with
  | nil => rw [hw] at hdecode; cases hdecode
  | cons b0 rest =>
    rw [hw] at hdecode
    have h3 : decode3 b0 (rest.getD 0 0) (rest.getD 1 0) = i :=
      decode3_of_decode_eq_ok ((wellFormed_iff_ne_prefixCB i).mp hi) hdecode
    rw [← hw, ← h3, encode_decode3_length, h3, hw, List.headD_cons]

/-- The bytes of an instruction cut off behind the first are refused by name, the CB page apart. -/
theorem decode_take_encode {i : Instr} (hi : i.wellFormed = true) {k : Nat} (hpos : 0 < k)
    (hk : k < (encode i).length) (hcb : (encode i).headD 0 ≠ 0xCB) :
    decode ((encode i).take k) = .error (.truncated ((encode i).headD 0)) := by
  have hlen : (encode i).length = lengthOf ((encode i).headD 0) := encode_length_eq_lengthOf hi
  obtain ⟨k, rfl⟩ := Nat.exists_eq_add_one.mpr hpos
  cases hw : encode i with
  | nil => simp [hw] at hk
  | cons b0 rest =>
    rw [hw] at hk
    rw [hw, List.headD_cons] at hlen hcb
    have hshort : (rest.take k).length + 1 < lengthOf b0 := by
      rw [List.length_take, ← hlen]
      omega
    exact decode_eq_truncated hcb hshort

/-! ### The words of the instruction groups (R75 to R81) -/

theorem encode_ld8 (r r' : R8) : encode (.ld8 r r') = [BitVec.ofNat 8 (0x40 + 8 * r8Code r + r8Code r')] := by
  cases r <;> cases r' <;> rfl
theorem encode_ld8FromHL (r : R8) : encode (.ld8FromHL r) = [BitVec.ofNat 8 (0x46 + 8 * r8Code r)] := by
  cases r <;> rfl
theorem encode_ld8ToHL (r : R8) : encode (.ld8ToHL r) = [BitVec.ofNat 8 (0x70 + r8Code r)] := by
  cases r <;> rfl
theorem encode_ld8Imm (r : R8) (n : Byte) : encode (.ld8Imm r n) = [BitVec.ofNat 8 (0x06 + 8 * r8Code r), n] := by
  cases r <;> rfl
theorem encode_alu (op : AluOp) (r : R8) :
    encode (.alu op r) = [BitVec.ofNat 8 (0x80 + 8 * aluCode op + r8Code r)] := by
  cases op <;> cases r <;> rfl
theorem encode_aluHL (op : AluOp) : encode (.aluHL op) = [BitVec.ofNat 8 (0x86 + 8 * aluCode op)] := by
  cases op <;> rfl
theorem encode_aluImm (op : AluOp) (n : Byte) :
    encode (.aluImm op n) = [BitVec.ofNat 8 (0xC6 + 8 * aluCode op), n] := by
  cases op <;> rfl
theorem encode_inc (o : ByteOperand) : encode o.inc = [BitVec.ofNat 8 (0x04 + 8 * o.code)] := by
  rcases o with (_ | _) | _ <;> rfl
theorem encode_dec (o : ByteOperand) : encode o.dec = [BitVec.ofNat 8 (0x05 + 8 * o.code)] := by
  rcases o with (_ | _) | _ <;> rfl
theorem encode_rot (o : ByteOperand) (op : RotOp) :
    encode (o.rot op) = [0xCB, BitVec.ofNat 8 (8 * rotCode op + o.code)] := by
  rcases o with (_ | _) | _ <;> cases op <;> rfl
theorem encode_bit (o : ByteOperand) (b : Fin 8) :
    encode (o.bit b) = [0xCB, BitVec.ofNat 8 (0x40 + 8 * b.val + o.code)] := by
  rcases o with (_ | _) | _ <;> fin_cases b <;> rfl
theorem encode_res (o : ByteOperand) (b : Fin 8) :
    encode (o.res b) = [0xCB, BitVec.ofNat 8 (0x80 + 8 * b.val + o.code)] := by
  rcases o with (_ | _) | _ <;> fin_cases b <;> rfl
theorem encode_set (o : ByteOperand) (b : Fin 8) :
    encode (o.set b) = [0xCB, BitVec.ofNat 8 (0xC0 + 8 * b.val + o.code)] := by
  rcases o with (_ | _) | _ <;> fin_cases b <;> rfl
theorem encode_ld16Imm (rr : R16) (v : Word) :
    encode (.ld16Imm rr v) = [BitVec.ofNat 8 (0x01 + 16 * r16Code rr), loByte v, hiByte v] := by
  cases rr <;> rfl
theorem encode_push (q : R16Stk) : encode (.push q) = [BitVec.ofNat 8 (0xC5 + 16 * r16StkCode q)] := by
  cases q <;> rfl
theorem encode_pop (q : R16Stk) : encode (.pop q) = [BitVec.ofNat 8 (0xC1 + 16 * r16StkCode q)] := by
  cases q <;> rfl
theorem encode_addHL (rr : R16) : encode (.addHL rr) = [BitVec.ofNat 8 (0x09 + 16 * r16Code rr)] := by
  cases rr <;> rfl
theorem encode_inc16 (rr : R16) : encode (.inc16 rr) = [BitVec.ofNat 8 (0x03 + 16 * r16Code rr)] := by
  cases rr <;> rfl
theorem encode_dec16 (rr : R16) : encode (.dec16 rr) = [BitVec.ofNat 8 (0x0B + 16 * r16Code rr)] := by
  cases rr <;> rfl
theorem encode_jpIf (cc : Cond) (v : Word) :
    encode (.jpIf cc v) = [BitVec.ofNat 8 (0xC2 + 8 * ccCode cc), loByte v, hiByte v] := by
  cases cc <;> rfl
theorem encode_jrIf (cc : Cond) (n : Byte) : encode (.jrIf cc n) = [BitVec.ofNat 8 (0x20 + 8 * ccCode cc), n] := by
  cases cc <;> rfl
theorem encode_callIf (cc : Cond) (v : Word) :
    encode (.callIf cc v) = [BitVec.ofNat 8 (0xC4 + 8 * ccCode cc), loByte v, hiByte v] := by
  cases cc <;> rfl
theorem encode_retIf (cc : Cond) : encode (.retIf cc) = [BitVec.ofNat 8 (0xC0 + 8 * ccCode cc)] := by
  cases cc <;> rfl
theorem encode_rst (y : Fin 8) : encode (.rst y) = [BitVec.ofNat 8 (0xC7 + 8 * y.val)] := by
  fin_cases y <;> rfl

/-- The low byte of a 16-bit immediate, in integers (R73). -/
theorem ofNat_mod_eq_loByte (v : Word) : BitVec.ofNat 8 (v.toNat % 256) = loByte v := by
  apply BitVec.eq_of_toNat_eq
  simp [loByte]

/-- The high byte of a 16-bit immediate, in integers (R73). -/
theorem ofNat_div_eq_hiByte (v : Word) : BitVec.ofNat 8 (v.toNat / 256) = hiByte v := by
  apply BitVec.eq_of_toNat_eq
  simp [hiByte, Nat.shiftRight_eq_div_pow]

/-! ### Encoding what was decoded, format by format (R73, R80, R81)

An opcode without operand bytes decodes to one instruction whatever follows it, so its round trip computes; the
opcodes with operand bytes are 0xCB and those of the two lists of formats. -/

/-- The length from the first byte, by the formats of R73. -/
theorem lengthOf_eq_formats : ∀ b0 : Byte,
    lengthOf b0 =
      if b0 = 0xCB ∨ b0 ∈ byteOperandOpcodes then 2 else if b0 ∈ halfwordOperandOpcodes then 3 else 1 := by
  decide

/-- The formats `op` and `unrecognized`: `b1` and `b2` drop out of the decoder for each opcode checked. -/
theorem encode_decode3_noOperand (b1 b2 : Byte) :
    ∀ b0 : Byte, lengthOf b0 = 1 → encode (decode3 b0 b1 b2) = [b0] :=
  of_decide_eq_true rfl

/-- The formats with one operand byte. -/
theorem encode_decode3_byteOperand {b0 : Byte} (h : b0 ∈ byteOperandOpcodes) (b1 b2 : Byte) :
    encode (decode3 b0 b1 b2) = [b0, b1] := by
  fin_cases h <;> rfl

/-- The formats with two operand bytes, which come apart as they were put together. -/
theorem encode_decode3_halfwordOperand {b0 : Byte} (h : b0 ∈ halfwordOperandOpcodes) (b1 b2 : Byte) :
    encode (decode3 b0 b1 b2) = [b0, b1, b2] := by
  have hbytes : [loByte (concat b2 b1), hiByte (concat b2 b1)] = [b1, b2] := by simp
  fin_cases h <;> exact congrArg (_ :: ·) hbytes

/-- The format `cb`: every second byte is an instruction of its own (R81). -/
theorem encode_decodeCB : ∀ op2 : Byte, encode (decodeCB op2) = [0xCB, op2] := by
  decide

/-- What three bytes decode to is encoded in the first of them, as many as the first one tells. -/
theorem encode_decode3 (b0 b1 b2 : Byte) : encode (decode3 b0 b1 b2) = [b0, b1, b2].take (lengthOf b0) := by
  by_cases hcb : b0 = 0xCB
  · subst hcb
    exact encode_decodeCB b1
  have hlen := lengthOf_eq_formats b0
  split_ifs at hlen with hbyte hhalfword
  · rw [hlen, encode_decode3_byteOperand (hbyte.resolve_left hcb)]
    rfl
  · rw [hlen, encode_decode3_halfwordOperand hhalfword]
    rfl
  · rw [hlen, encode_decode3_noOperand b1 b2 b0 hlen]
    rfl

/-- With a byte after it 0xCB is never taken alone (R73): its encoding is one byte, and 0xCB tells of two. -/
theorem decode3_ne_prefixCB (b0 b1 b2 : Byte) : decode3 b0 b1 b2 ≠ .prefixCB := by
  intro h
  have hlen : lengthOf b0 = 1 := by rw [← encode_decode3_length b0 b1 b2, h]; rfl
  have hword : [0xCB] = [b0] := by rw [← encode_decode3_noOperand b1 b2 b0 hlen, h]; rfl
  obtain rfl : 0xCB = b0 := List.head_eq_of_cons_eq hword
  exact absurd hlen (by decide)

/-! ### The unrecognized opcodes (R82) -/

/-- An unrecognized opcode is encoded as itself, and is one of the eleven. -/
theorem encode_of_unrecognizedByte {i : Instr} {b : Byte} (h : unrecognizedByte i = some b) :
    encode i = [b] ∧ b ∈ unrecognizedOpcodes := by
  unfold unrecognizedByte at h
  split at h <;> cases h <;> exact ⟨rfl, by decide⟩

theorem unrecognizedByte_of_mem {b0 : Byte} (h : b0 ∈ unrecognizedOpcodes) (b1 b2 : Byte) :
    unrecognizedByte (decode3 b0 b1 b2) = some b0 := by
  fin_cases h <;> rfl

/-- The eleven bytes are the only ones that decode to no instruction: the first byte of the encoding is `b0`. -/
theorem unrecognizedByte_of_not_mem {b0 : Byte} (h : b0 ∉ unrecognizedOpcodes) (b1 b2 : Byte) :
    unrecognizedByte (decode3 b0 b1 b2) = none := by
  cases hb : unrecognizedByte (decode3 b0 b1 b2) with
  | none => rfl
  | some b =>
    obtain ⟨hword, hmem⟩ := encode_of_unrecognizedByte hb
    have hlen : lengthOf b0 = 1 := by rw [← encode_decode3_length b0 b1 b2, hword]; rfl
    rw [encode_decode3_noOperand b1 b2 b0 hlen] at hword
    exact absurd (List.head_eq_of_cons_eq hword ▸ hmem) h

/-! ### The CB page behind the byte 0xCB (R81, R198) -/

theorem exec_rot (op : RotOp) (r : R8) (s : State) : exec (.rot op r) s = rotReg op r s := by
  cases op <;> cases r <;> rfl
theorem exec_rotHL (op : RotOp) (s : State) : exec (.rotHL op) s = rotMem op s := by
  cases op <;> rfl
theorem exec_bit (b : Fin 8) (r : R8) (s : State) : exec (.bit b r) s = bitReg b r s := by
  fin_cases b <;> cases r <;> rfl
theorem exec_bitHL (b : Fin 8) (s : State) : exec (.bitHL b) s = bitMem b s := by
  fin_cases b <;> rfl
theorem exec_res (b : Fin 8) (r : R8) (s : State) : exec (.res b r) s = resReg b r s := by
  fin_cases b <;> cases r <;> rfl
theorem exec_resHL (b : Fin 8) (s : State) : exec (.resHL b) s = resMem b s := by
  fin_cases b <;> rfl
theorem exec_set (b : Fin 8) (r : R8) (s : State) : exec (.set b r) s = setReg b r s := by
  fin_cases b <;> cases r <;> rfl
theorem exec_setHL (b : Fin 8) (s : State) : exec (.setHL b) s = setMem b s := by
  fin_cases b <;> rfl

/-- Running op2 behind 0xCB is running the CB-page instruction it decodes to: both read the same fields. -/
theorem runCB_eq_exec (op2 : Byte) (s : State) : runCB op2 s = exec (decodeCB op2) s := by
  unfold runCB decodeCB
  generalize fieldX op2 = x
  cases R8.ofField (fieldZ op2) with
  | some r =>
    match x with
    | 0 => exact (exec_rot ..).symm
    | 1 => exact (exec_bit ..).symm
    | 2 => exact (exec_res ..).symm
    | x + 3 => exact (exec_set ..).symm
  | none =>
    match x with
    | 0 => exact (exec_rotHL ..).symm
    | 1 => exact (exec_bitHL ..).symm
    | 2 => exact (exec_resHL ..).symm
    | x + 3 => exact (exec_setHL ..).symm

end Sys2Proof.Machine

/-! ### The obligations -/

namespace Sys2Proof.Scope

open Sys2Proof Sys2Proof.Machine

/-- Settles O2: the round trip of each constructor, and with it the length that the first byte tells. -/
theorem decodeInvertsEncode : Obligations.DecodeInvertsEncode := by
  unfold Obligations.DecodeInvertsEncode
  intro i hi
  exact ⟨encode_length_eq_lengthOf hi, Laws.RoundTrip.all i hi, fun _ => decode_take_encode hi⟩

/-- Settles O3: format by format the encoding gives the bytes back, so `prefixCB` is never decoded. -/
theorem encodeInvertsDecode : Obligations.EncodeInvertsDecode := by
  unfold Obligations.EncodeInvertsDecode
  intro b0 b1 b2
  exact ⟨(wellFormed_iff_ne_prefixCB _).mpr (decode3_ne_prefixCB b0 b1 b2), encode_decode3 b0 b1 b2⟩

/-- Settles O1: the words written out are decoded; those of the groups are one equation each. -/
theorem tableWordsDecode : Obligations.TableWordsDecode := by
  unfold Obligations.TableWordsDecode
  refine ⟨by decide, fun r r' o rr q cc op rop b y n v => ?_⟩
  have hn : BitVec.ofNat 8 n.toNat = n := by simp
  simp only [List.map_cons, List.map_nil, hn, ofNat_mod_eq_loByte, ofNat_div_eq_hiByte]
  exact ⟨encode_ld8 r r', encode_ld8FromHL r, encode_ld8ToHL r, encode_ld8Imm r n, encode_alu op r, encode_aluHL op,
    encode_aluImm op n, encode_inc o, encode_dec o, encode_rot o rop, encode_bit o b, encode_res o b, encode_set o b,
    encode_ld16Imm rr v, encode_push q, encode_pop q, encode_addHL rr, encode_inc16 rr, encode_dec16 rr,
    encode_jpIf cc v, encode_jrIf cc n, encode_callIf cc v, encode_retIf cc, encode_rst y⟩

/-- Settles O4: both facts of the first byte, and the encoding keeps the two kinds of opcode apart. -/
theorem lengthAndUnrecognizedOpcodes : Obligations.LengthAndUnrecognizedOpcodes := by
  unfold Obligations.LengthAndUnrecognizedOpcodes
  intro b0 b1 b2
  refine ⟨lengthOf_eq_formats b0, ?_⟩
  split_ifs with h
  · exact unrecognizedByte_of_mem h b1 b2
  · exact unrecognizedByte_of_not_mem h b1 b2

/-- Settles O60: 0xCB alone runs op2, which is the CB-page instruction, and every instruction answers a next state. -/
theorem prefixRunsTheCbPage : Obligations.PrefixRunsTheCbPage := by
  unfold Obligations.PrefixRunsTheCbPage
  intro s
  obtain ⟨t, ht, -⟩ := exec_touch .prefixCB s
  exact ⟨t, ht, (runCB_eq_exec (s.busRead s.regs.pc) (s.setPc (s.regs.pc + 1))).symm.trans ht⟩

end Sys2Proof.Scope
end

section
/-! PROOFS. The 8-bit loads and stores: the statements O35 to O37. The lemmas about the model come first. -/

namespace Sys2Proof.Machine

open Sys2Proof

/-! ### The meanings of the instruction groups (R86 to R89) -/

theorem exec_ld8 (r r' : R8) (s : State) : exec (.ld8 r r') s = ldReg r r' s := by
  cases r <;> cases r' <;> rfl
theorem exec_ld8Imm (r : R8) (n : Byte) (s : State) : exec (.ld8Imm r n) s = ldImm r n s := by
  cases r <;> rfl
theorem exec_ld8FromHL (r : R8) (s : State) : exec (.ld8FromHL r) s = ldFromHL r s := by
  cases r <;> rfl
theorem exec_ld8ToHL (r : R8) (s : State) : exec (.ld8ToHL r) s = ldToHL r s := by
  cases r <;> rfl

/-- LD r from any source is one write of a register (R86 to R88). -/
theorem exec_load (src : ByteSource) (r : R8) (s : State) :
    exec (src.load r) s = .next { s with regs := s.regs.put r (src.value s), cycles := src.cost } := by
  cases src with
  | reg r' => exact exec_ld8 r r' s
  | atHL => exact exec_ld8FromHL r s
  | imm n => exact exec_ld8Imm r n s

/-! ### The addresses of memory operands (R79) -/

/-- The high page as a sum, which never carries. -/
theorem highPage_eq_add (n : Byte) : highPage n = 0xFF00 + n.setWidth 16 := by
  revert n
  decide

/-! ### A store of one byte (R47) -/

/-- One store is a `stores`, whatever the registers and the cost become: it has a bus write's frame. -/
theorem State.stores_afterStore (s : State) (a : Word) (v : Byte) (g : Regs) (c : Nat) :
    s.stores (.next (s.afterStore a v g c)) a v g c := by
  have hself : s.afterStore a v s.regs s.cycles = s.busWrite a v := by
    have hregs : (s.busWrite a v).regs = s.regs := s.busWrite_regs a v
    have hcycles : (s.busWrite a v).cycles = s.cycles := s.busWrite_cycles a v
    rw [State.afterStore, ← hregs, ← hcycles]
  refine ⟨rfl, hself ▸ (s.busWrite_busFrame a v).same, fun hlocal x hx => ?_⟩
  exact State.busWrite_other hlocal (List.ne_of_not_mem_cons hx)

/-- A meaning that ends in one bus write stores that byte and keeps the registers (R89, R90, R93, R94, R96, R98,
R100). -/
theorem done_busWrite_stores (s : State) (a : Word) (v : Byte) (c : Nat) :
    s.stores (done c (s.busWrite a v)) a v s.regs c := by
  have hdone : done c (s.busWrite a v) = .next (s.afterStore a v s.regs c) := by
    simp [State.afterStore, State.cost]
  rw [hdone]
  exact s.stores_afterStore ..

/-- LD (HL+),A and LD (HL-),A store A at the old HL and move HL (R101, R102). -/
theorem ldAToHLThen_stores (s : State) (step : Word) :
    s.stores (ldAToHLThen step s) s.hl s.regs.a (s.regs.put16 .hl (s.hl + step)) 8 := by
  have hdone : ldAToHLThen step s = .next (s.afterStore s.hl s.regs.a (s.regs.put16 .hl (s.hl + step)) 8) := by
    simp [ldAToHLThen, State.setAtHL, State.setHl, State.setR16, State.afterStore, State.cost, Regs.get]
  rw [hdone]
  exact s.stores_afterStore ..

end Sys2Proof.Machine

/-! ### The obligations -/

namespace Sys2Proof.Scope

open Sys2Proof Sys2Proof.Machine

/-- Settles O35: each form is one register write of its source's value, and a register file keeps the others. -/
theorem loadRegister : Obligations.LoadRegister := by
  unfold Obligations.LoadRegister
  intro s r src
  exact ⟨_, exec_load src r s, Regs.get_put_same .., fun _ h => Regs.get_put_other _ _ h, Regs.put_f ..,
    Regs.put_sp .., Regs.put_pc .., rfl, rfl⟩

/-- Settles O36: the modes differ in the address, which `ldAFrom` takes, and in how HL moves after the load. -/
theorem loadAccumulatorFromMemory : Obligations.LoadAccumulatorFromMemory := by
  unfold Obligations.LoadAccumulatorFromMemory
  intro s n a hl loaded moved
  have hfrom (x : Word) (c : Nat) : ldAFrom x c s = .next (loaded x c) := rfl
  have hthen (step : Word) : ldAFromHLThen step s = .next (moved (hl + step)) := rfl
  rw [← highPage_eq_add, ← highPage_eq_add, BitVec.sub_eq_add_neg]
  exact ⟨hfrom _ 8, hfrom _ 8, hfrom a 16, hfrom _ 12, hfrom _ 8, hthen 1, hthen (-1)⟩

/-- Settles O37: each is one bus write of its byte at its address, and two of them move HL after it. -/
theorem byteStores : Obligations.ByteStores := by
  unfold Obligations.ByteStores
  intro s r n a hl moved
  have hstore := done_busWrite_stores s
  have hthen := ldAToHLThen_stores s
  rw [exec_ld8ToHL, ← highPage_eq_add, ← highPage_eq_add, BitVec.sub_eq_add_neg]
  exact ⟨hstore hl _ 8, hstore hl n 12, hstore _ _ 8, hstore _ _ 8, hstore a _ 16, hstore _ _ 12, hstore _ _ 8,
    hthen 1, hthen (-1)⟩

end Sys2Proof.Scope
end

section
/-! PROOFS. The 16-bit loads: the statement O39. The lemmas about the model come first. -/

namespace Sys2Proof.Machine

open Sys2Proof

/-- The flag byte is the value of its flags (R20). -/
theorem flagByte_eq_flagsValue (z n h c : Bool) : flagByte z n h c = BitVec.ofNat 8 (flagsValue z n h c) := by
  revert z n h c
  decide

/-- A sign-extended byte added to a word, in integers (R9): the displacement of R146 and of the relative jumps. -/
theorem toNat_add_sext16 (v : Word) (e : Byte) :
    ((v + sext16 e).toNat : Int) = ((v.toNat : Int) + e.toInt) % 65536 := by
  have hsext : ((sext16 e).toNat : Int) = e.toInt % 65536 := by
    rw [sext16, BitVec.signExtend, BitVec.toNat_ofInt]
    exact Int.toNat_of_nonneg (Int.emod_nonneg _ (by decide))
  rw [BitVec.toNat_add, Int.natCast_mod, Int.natCast_add, hsext]
  exact Int.add_emod_emod ..

end Sys2Proof.Machine

/-! ### The obligations -/

namespace Sys2Proof.Scope

open Sys2Proof Sys2Proof.Machine

/-- Settles O39: both instructions write `spadd` of SP and the offset, and the flags it returns. -/
theorem stackPointerOffset : Obligations.StackPointerOffset := by
  unfold Obligations.StackPointerOffset
  intro s e sp f
  have hf : flagByte false false (spAddH s.regs.sp e) (spAddC s.regs.sp e) = f :=
    flagByte_eq_flagsValue ..
  have hsp : exec (.addSPE8 e) s = done 16 ((s.setSp (spAdd s.regs.sp e)).flags false false (spAddH s.regs.sp e)
      (spAddC s.regs.sp e)) := rfl
  have hhl : exec (.ldHLSPE8 e) s = done 12 ((s.setHl (spAdd s.regs.sp e)).flags false false (spAddH s.regs.sp e)
      (spAddC s.regs.sp e)) := rfl
  rw [hsp, hhl, State.flags, State.flags, hf]
  exact ⟨spAdd s.regs.sp e, toNat_add_sext16 s.regs.sp e, rfl, rfl⟩

end Sys2Proof.Scope
end

section
/-! PROOFS. 8-bit arithmetic and logic: the statements O43 to O46 and O57. The lemmas about the model come first. -/

namespace Sys2Proof.Machine

open Sys2Proof

/-! ### The meanings of the instruction groups (R114 to R141) -/

theorem exec_alu (op : AluOp) (r : R8) (s : State) : exec (.alu op r) s = aluReg op r s := by
  cases op <;> cases r <;> rfl
theorem exec_aluHL (op : AluOp) (s : State) : exec (.aluHL op) s = aluMem op s := by
  cases op <;> rfl
theorem exec_aluImm (op : AluOp) (n : Byte) (s : State) : exec (.aluImm op n) s = aluImm8 op n s := by
  cases op <;> rfl
theorem exec_inc8 (r : R8) (s : State) : exec (.inc8 r) s = incReg r s := by
  cases r <;> rfl
theorem exec_dec8 (r : R8) (s : State) : exec (.dec8 r) s = decReg r s := by
  cases r <;> rfl

/-- An ALU operation writes A, CP apart, and F, and nothing else. -/
theorem State.aluWith_eq (s : State) (op : AluOp) (b : Byte) {out : AluOut}
    (hout : aluOut op s.regs.a b s.flagC = out) :
    s.aluWith op b = { s with regs := { s.regs with
      a := if aluWritesA op then out.r else s.regs.a
      f := flagByte out.z out.n out.h out.c } } := by
  subst hout
  cases op <;> rfl

/-- An ALU instruction on any source, by what its function `aluOut` gives. -/
theorem exec_aluSource (src : ByteSource) (op : AluOp) (s : State) {out : AluOut}
    (hout : aluOut op s.regs.a (src.value s) s.flagC = out) :
    exec (src.alu op) s = .next { s with
      regs := { s.regs with
        a := if aluWritesA op then out.r else s.regs.a
        f := flagByte out.z out.n out.h out.c }
      cycles := src.cost } := by
  have hexec : exec (src.alu op) s = done src.cost (s.aluWith op (src.value s)) := by
    cases src with
    | reg r => exact exec_alu op r s
    | atHL => exact exec_aluHL op s
    | imm n => exact exec_aluImm op n s
  rw [hexec, s.aluWith_eq op _ hout]
  rfl

/-- DAA writes A and F (R194), and nothing else. -/
theorem exec_daa (s : State) {out : AluOut} (hout : daaOut s.regs.a s.flagN s.flagH s.flagC = out) :
    exec .daa s = .next { s with
      regs := { s.regs with a := out.r, f := flagByte out.z out.n out.h out.c }
      cycles := 4 } := by
  subst hout
  rfl

/-- A result written back to a register, with its flags. -/
theorem wroteBack_setR8 (r : R8) (s : State) (out : AluOut) (c : Nat) :
    (ByteOperand.reg r).wroteBack s (done c ((s.setR8 r out.r).setFlags out)) out.r
      (flagByte out.z out.n out.h out.c) c := rfl

/-- A result written back to the byte at HL, with its flags. -/
theorem wroteBack_setAtHL (s : State) (out : AluOut) (c : Nat) :
    ByteOperand.atHL.wroteBack s (done c ((s.setAtHL out.r).setFlags out)) out.r
      (flagByte out.z out.n out.h out.c) c := by
  have hdone : done c ((s.setAtHL out.r).setFlags out) =
      .next (s.afterStore s.hl out.r { s.regs with f := flagByte out.z out.n out.h out.c } c) := by
    simp [State.setAtHL, State.setFlags, State.flags, State.afterStore, State.cost]
  rw [hdone]
  exact s.stores_afterStore ..

/-- INC writes back what `inc8Out` gives (R138, R139). -/
theorem exec_inc_wroteBack (o : ByteOperand) (s : State) {out : AluOut} (hout : inc8Out (o.value s) s.flagC = out) :
    o.wroteBack s (exec o.inc s) out.r (flagByte out.z out.n out.h out.c) (o.cost 4 12) := by
  subst hout
  cases o with
  | reg r => exact exec_inc8 r s ▸ wroteBack_setR8 r s _ 4
  | atHL => exact wroteBack_setAtHL s _ 12

/-- DEC writes back what `dec8Out` gives (R140, R141). -/
theorem exec_dec_wroteBack (o : ByteOperand) (s : State) {out : AluOut} (hout : dec8Out (o.value s) s.flagC = out) :
    o.wroteBack s (exec o.dec s) out.r (flagByte out.z out.n out.h out.c) (o.cost 4 12) := by
  subst hout
  cases o with
  | reg r => exact exec_dec8 r s ▸ wroteBack_setR8 r s _ 4
  | atHL => exact wroteBack_setAtHL s _ 12

/-! ### The functions of the ALU in integers (R9, R20, R113) -/

theorem flagByte_toNat (z n h c : Bool) : (flagByte z n h c).toNat = flagsValue z n h c := by
  revert z n h c
  decide

/-- The Z flag of a result is the test of its value. -/
theorem byte_beq_zero (v : Byte) : (v == 0) = decide (v.toNat = 0) := by
  rw [beq_eq_decide]
  exact decide_eq_decide.mpr (BitVec.toNat_inj (y := 0)).symm

/-- `add8` in integers (R113). -/
theorem add8_eq (a b : Byte) (cin : Bool) :
    add8 a b cin =
      let sum := a.toNat + b.toNat + cin.toNat
      { r := BitVec.ofNat 8 sum
        z := decide (sum % 256 = 0)
        n := false
        h := decide (15 < a.toNat % 16 + b.toNat % 16 + cin.toNat)
        c := decide (255 < sum) } := by
  simp only [add8, byte_beq_zero, BitVec.toNat_ofNat]

/-- ADD and ADC are one function: ADC alone takes the carry flag in (R114 to R119). -/
theorem aluOut_add (withCarry : Bool) (a b : Byte) (carry : Bool) :
    aluOut (if withCarry then .adc else .add) a b carry = add8 a b (withCarry && carry) := by
  cases withCarry <;> rfl

/-- SUB, SBC and CP are one function: SBC alone takes the carry flag in (R120 to R125, R135 to R137). -/
theorem aluOut_sub {op : AluOp} (hop : op = .sub ∨ op = .sbc ∨ op = .cp) (a b : Byte) (carry : Bool) :
    aluOut op a b carry = sub8 a b (decide (op = .sbc) && carry) := by
  rcases hop with rfl | rfl | rfl <;> rfl

/-- A difference of bytes in natural numbers: 512 keeps it positive. -/
theorem ofInt_sub_eq_ofNat {a b c : Nat} (hb : b ≤ 256) (hc : c ≤ 256) :
    BitVec.ofInt 8 ((a : Int) - b - c) = BitVec.ofNat 8 (a + 512 - b - c) := by
  apply BitVec.eq_of_toNat_eq
  rw [BitVec.toNat_ofInt, BitVec.toNat_ofNat]
  omega

/-- `sub8` in integers (R113). -/
theorem sub8_eq (a b : Byte) (cin : Bool) :
    sub8 a b cin =
      let diff := a.toNat + 512 - b.toNat - cin.toNat
      { r := BitVec.ofNat 8 diff
        z := decide (diff % 256 = 0)
        n := true
        h := decide (a.toNat % 16 < b.toNat % 16 + cin.toNat)
        c := decide (a.toNat < b.toNat + cin.toNat) } := by
  have hcin : cin.toNat ≤ 256 := (Bool.toNat_le cin).trans (by decide)
  simp only [sub8, ofInt_sub_eq_ofNat b.isLt.le hcin, byte_beq_zero, BitVec.toNat_ofNat]

/-- `inc8Out` in integers (R138). -/
theorem inc8Out_eq (v : Byte) (c : Bool) :
    inc8Out v c =
      ⟨BitVec.ofNat 8 (v.toNat + 1), decide (v.toNat = 255), false, decide (v.toNat % 16 = 15), c⟩ := by
  have hr : v + 1 = BitVec.ofNat 8 (v.toNat + 1) := by bv_omega
  have hz : (v + 1 == 0) = decide (v.toNat = 255) := by
    rw [byte_beq_zero]
    exact decide_eq_decide.mpr (by bv_omega)
  rw [inc8Out, hz, hr]

/-- `dec8Out` in integers (R140). -/
theorem dec8Out_eq (v : Byte) (c : Bool) :
    dec8Out v c =
      ⟨BitVec.ofNat 8 (v.toNat + 255), decide (v.toNat = 1), true, decide (v.toNat % 16 = 0), c⟩ := by
  have hr : v - 1 = BitVec.ofNat 8 (v.toNat + 255) := by bv_omega
  have hz : (v - 1 == 0) = decide (v.toNat = 1) := by
    rw [byte_beq_zero]
    exact decide_eq_decide.mpr (by bv_omega)
  rw [dec8Out, hz, hr]

/-! ### Decimal arithmetic (R113, R194) -/

theorem bcd_toNat {x : Nat} (hx : x < 100) : (bcd x).toNat = x / 10 * 16 + x % 10 := by
  rw [bcd, BitVec.toNat_ofNat]
  omega

/-- DAA after a sum of two-digit decimal numbers: the low digit is corrected exactly when the low digits carry,
the high one exactly when the numbers do. -/
theorem daaOut_add8_bcd {x y : Nat} (hx : x < 100) (hy : y < 100) (cin : Bool) {out : AluOut}
    (hout : add8 (bcd x) (bcd y) cin = out) :
    let total := x + y + cin.toNat
    (daaOut out.r out.n out.h out.c).r = bcd (total % 100) ∧
      (daaOut out.r out.n out.h out.c).c = decide (100 ≤ total) := by
  intro total
  rw [add8_eq, bcd_toNat hx, bcd_toNat hy] at hout
  subst hout
  have hcin : cin.toNat ≤ 1 := Bool.toNat_le cin
  generalize hsum : x / 10 * 16 + x % 10 + (y / 10 * 16 + y % 10) + cin.toNat = sum
  have hlow : (15 < (x / 10 * 16 + x % 10) % 16 + (y / 10 * 16 + y % 10) % 16 + cin.toNat ∨
      9 < sum % 256 % 16) ↔ 10 ≤ x % 10 + y % 10 + cin.toNat := by omega
  have hhigh : (255 < sum ∨ 0x99 < sum % 256) ↔ 100 ≤ total := by omega
  simp only [daaOut, daaAddAdjust, BitVec.toNat_ofNat, decide_eq_true_eq, gt_iff_lt, hlow, hhigh,
    ← Bool.decide_or, if_false, Bool.false_eq_true]
  refine ⟨BitVec.eq_of_toNat_eq ?_, trivial⟩
  rw [bcd_toNat (Nat.mod_lt _ (by decide)), BitVec.toNat_ofNat]
  split_ifs <;> omega

/-- DAA after a difference of two-digit decimal numbers: each digit is corrected exactly when it borrows. -/
theorem daaOut_sub8_bcd {x y : Nat} (hx : x < 100) (hy : y < 100) (cin : Bool) {out : AluOut}
    (hout : sub8 (bcd x) (bcd y) cin = out) :
    (daaOut out.r out.n out.h out.c).r = bcd ((x + 200 - y - cin.toNat) % 100) ∧
      (daaOut out.r out.n out.h out.c).c = decide (x < y + cin.toNat) := by
  rw [sub8_eq, bcd_toNat hx, bcd_toNat hy] at hout
  subst hout
  have hcin : cin.toNat ≤ 1 := Bool.toNat_le cin
  have hlow : (x / 10 * 16 + x % 10) % 16 < (y / 10 * 16 + y % 10) % 16 + cin.toNat ↔
      x % 10 < y % 10 + cin.toNat := by omega
  have hhigh : x / 10 * 16 + x % 10 < y / 10 * 16 + y % 10 + cin.toNat ↔ x < y + cin.toNat := by omega
  simp only [daaOut, daaSubAdjust, BitVec.toNat_ofNat, decide_eq_true_eq, hlow, hhigh, if_true]
  refine ⟨BitVec.eq_of_toNat_eq ?_, trivial⟩
  rw [bcd_toNat (Nat.mod_lt _ (by decide)), BitVec.toNat_ofInt]
  split_ifs <;> omega

end Sys2Proof.Machine

/-! ### The obligations -/

namespace Sys2Proof.Scope

open Sys2Proof Sys2Proof.Machine

/-- Settles O43: both are `add8`, with no carry in or with the C flag. -/
theorem addAndAddWithCarry : Obligations.AddAndAddWithCarry := by
  unfold Obligations.AddAndAddWithCarry
  intro s src withCarry a b cin
  have hcin : (withCarry && s.flagC).toNat = cin := by
    simp [cin, State.flagC, Bool.toNat]
  have hout := (aluOut_add withCarry s.regs.a (src.value s) s.flagC).trans (add8_eq ..)
  rw [hcin] at hout
  refine ⟨_, exec_aluSource src _ s hout, ?_, flagByte_toNat .., rfl⟩
  cases withCarry <;> rfl

/-- Settles O44: each is `sub8`, with the C flag for SBC only, and `aluWritesA` leaves CP out. -/
theorem subtractAndCompare : Obligations.SubtractAndCompare := by
  unfold Obligations.SubtractAndCompare
  intro s src op hop a b cin r
  have hcin : (decide (op = .sbc) && s.flagC).toNat = cin := by
    simp [cin, State.flagC, Bool.toNat]
  have hout := (aluOut_sub hop s.regs.a (src.value s) s.flagC).trans (sub8_eq ..)
  rw [hcin] at hout
  refine ⟨_, exec_aluSource src op s hout, ?_, flagByte_toNat .., rfl⟩
  rcases hop with rfl | rfl | rfl <;> rfl

/-- Settles O45: the function of each operation is the bitwise one on all eight bits. -/
theorem bitwiseLogic : Obligations.BitwiseLogic := by
  unfold Obligations.BitwiseLogic
  intro s src op hop
  refine ⟨_, exec_aluSource src op s rfl, fun i _ => ?_, ?_, rfl⟩
  · rcases hop with rfl | rfl | rfl
    · exact BitVec.getLsbD_and
    · exact BitVec.getLsbD_xor
    · exact BitVec.getLsbD_or
  · rw [flagByte_toNat]
    rcases hop with rfl | rfl | rfl <;> rfl

/-- Settles O46: both write back their function's result and flags, C being the old one. -/
theorem incrementAndDecrement : Obligations.IncrementAndDecrement := by
  unfold Obligations.IncrementAndDecrement
  intro s o v c
  rw [← flagByte_eq_flagsValue, ← flagByte_eq_flagsValue]
  exact ⟨exec_inc_wroteBack o s (inc8Out_eq ..), exec_dec_wroteBack o s (dec8Out_eq ..)⟩

/-- Settles O57: DAA finds in A and F what `add8` or `sub8` left, and corrects it digit by digit. -/
theorem decimalArithmetic : Obligations.DecimalArithmetic := by
  unfold Obligations.DecimalArithmetic
  intro s x y hx hy ha cin
  obtain ⟨hsum, hcarry⟩ := daaOut_add8_bcd hx hy s.flagC rfl
  obtain ⟨hdiff, hborrow⟩ := daaOut_sub8_bcd hx hy s.flagC rfl
  rw [← ha] at hsum hcarry hdiff hborrow
  refine ⟨⟨_, _, exec_aluSource (.imm (bcd y)) .adc s rfl, exec_daa _ ?_, hsum, (flagByte_c ..).trans hcarry⟩,
    _, _, exec_aluSource (.imm (bcd y)) .sbc s rfl, exec_daa _ ?_, hdiff, (flagByte_c ..).trans hborrow⟩ <;>
  · simp only [State.flagN, State.flagH, State.flagC, flagByte_n, flagByte_h, flagByte_c]
    rfl

end Sys2Proof.Scope
end

section
/-! PROOFS. 16-bit arithmetic: the statement O47. The lemmas about the model come first. -/

namespace Sys2Proof.Machine

open Sys2Proof

/-! ### A write of a register pair (R18) -/

theorem Regs.get16_put16_other (g : Regs) {rr rr' : R16} (v : Word) (h : rr' ≠ rr) :
    (g.put16 rr v).get16 rr' = g.get16 rr' := by
  cases rr <;> cases rr' <;> trivial

@[simp] theorem Regs.put16_a (g : Regs) (rr : R16) (v : Word) : (g.put16 rr v).a = g.a := by cases rr <;> rfl

/-- A state with one pair written, in the terms of the statements: the pair reads as the value, and the other
pairs, A, F and PC, and all that is no register are kept. -/
theorem State.putPair_frame (s : State) (rr : R16) (c : Nat) {v : Word} {n : Nat} (hv : v.toNat = n) :
    let t := { s with regs := s.regs.put16 rr v, cycles := c }
    (t.regs.get16 rr).toNat = n ∧ (∀ rr', rr' ≠ rr → t.regs.get16 rr' = s.regs.get16 rr') ∧
      t.regs.a = s.regs.a ∧ t.regs.f = s.regs.f ∧ t.regs.pc = s.regs.pc ∧ t.cycles = c ∧ s.onlyRegs t :=
  ⟨(congrArg BitVec.toNat (Regs.get16_put16_same ..)).trans hv, fun _ h => Regs.get16_put16_other _ _ h,
    Regs.put16_a .., Regs.put16_f .., Regs.put16_pc .., rfl, rfl⟩

/-! ### The meanings of the instruction groups (R143 to R145) -/

/-- ADD HL,rr writes H, L and F, and nothing else. -/
theorem exec_addHL (rr : R16) (s : State) :
    let sum := s.hl + s.regs.get16 rr
    exec (.addHL rr) s = .next { s with
      regs := { s.regs with
        h := hiByte sum
        l := loByte sum
        f := flagByte s.flagZ false (add16H s.hl (s.regs.get16 rr)) (add16C s.hl (s.regs.get16 rr)) }
      cycles := 8 } := by
  cases rr <;> rfl

/-- INC rr is one write of the pair. -/
theorem exec_inc16 (rr : R16) (s : State) :
    exec (.inc16 rr) s = .next { s with regs := s.regs.put16 rr (s.regs.get16 rr + 1), cycles := 8 } := by
  cases rr <;> rfl

/-- DEC rr is one write of the pair. -/
theorem exec_dec16 (rr : R16) (s : State) :
    exec (.dec16 rr) s = .next { s with regs := s.regs.put16 rr (s.regs.get16 rr - 1), cycles := 8 } := by
  cases rr <;> rfl

end Sys2Proof.Machine

/-! ### The obligations -/

namespace Sys2Proof.Scope

open Sys2Proof Sys2Proof.Machine

/-- Settles O47: ADD HL,rr writes the two bytes of the sum and its flags; INC rr and DEC rr are each one write of
their pair, by 1 up or, modulo 2^16, by 65535. -/
theorem pairArithmetic : Obligations.PairArithmetic := by
  unfold Obligations.PairArithmetic
  intro s rr hl x
  have hsum : (concat (hiByte (s.hl + s.regs.get16 rr)) (loByte (s.hl + s.regs.get16 rr))).toNat =
      (hl + x) % 65536 := by
    rw [concat_hiByte_loByte]
    exact BitVec.toNat_add ..
  have hinc : (s.regs.get16 rr + 1).toNat = (x + 1) % 65536 := BitVec.toNat_add ..
  have hdec : (s.regs.get16 rr - 1).toNat = (x + 65535) % 65536 := by
    rw [BitVec.toNat_sub, Nat.add_comm]
    rfl
  exact ⟨⟨_, exec_addHL rr s, hsum, flagByte_toNat .., rfl⟩, ⟨_, exec_inc16 rr s, s.putPair_frame rr 8 hinc⟩,
    _, exec_dec16 rr s, s.putPair_frame rr 8 hdec⟩

end Sys2Proof.Scope
end

section
/-! PROOFS. The rotates and shifts: the statements O48 and O49. The lemmas about the model come first. -/

namespace Sys2Proof.Machine

open Sys2Proof

/-! ### The functions of the rotates and shifts in integers (R149 to R168) -/

/-- A value shifted up to make room for a smaller one, in integers. Every rotate below is one of these: the bits
that stay and the bits that come in do not overlap. -/
theorem toNat_shiftLeft_or {w : Nat} (x y : BitVec w) {k : Nat} (hy : y.toNat < 2 ^ k) :
    ((x <<< k) ||| y).toNat = (x.toNat * 2 ^ k + y.toNat) % 2 ^ w := by
  calc ((x <<< k) ||| y).toNat
      = x.toNat <<< k % 2 ^ w ||| y.toNat % 2 ^ w := by
        rw [BitVec.toNat_or, BitVec.toNat_shiftLeft, Nat.mod_eq_of_lt y.isLt]
    _ = (x.toNat * 2 ^ k + y.toNat) % 2 ^ w := by
        rw [← Nat.or_mod_two_pow, ← Nat.shiftLeft_add_eq_or_of_lt hy, Nat.shiftLeft_eq]

theorem carryLow_toNat (c : Bool) : (carryLow c).toNat = c.toNat := by
  cases c <;> rfl

/-- A bit that enters at bit 0. -/
theorem shiftLeft_or_carryLow_toNat (v : Byte) (c : Bool) :
    ((v <<< 1) ||| carryLow c).toNat = (2 * v.toNat + c.toNat) % 256 := by
  have hc : (carryLow c).toNat < 2 ^ 1 := carryLow_toNat c ▸ Bool.toNat_lt c
  rw [toNat_shiftLeft_or v _ hc, carryLow_toNat, Nat.mul_comm]
  rfl

/-- A bit that enters at bit 7. -/
theorem shiftRight_or_carryHigh_toNat (v : Byte) (c : Bool) :
    ((v >>> 1) ||| carryHigh c).toNat = v.toNat / 2 + 128 * c.toNat := by
  have hv : (v >>> 1).toNat = v.toNat / 2 := by
    rw [BitVec.toNat_ushiftRight, Nat.shiftRight_eq_div_pow]
  have hc : c.toNat ≤ 1 := Bool.toNat_le c
  rw [BitVec.or_comm, carryHigh, toNat_shiftLeft_or _ _ (by omega), carryLow_toNat, hv]
  omega

/-- The two halves of a byte exchanged. -/
theorem swap_toNat (v : Byte) :
    (((v &&& 0x0F) <<< 4) ||| (v >>> 4)).toNat = v.toNat % 16 * 16 + v.toNat / 16 := by
  have hlow : (v &&& 0x0F).toNat = v.toNat % 16 := by
    rw [BitVec.toNat_and]
    exact Nat.and_two_pow_sub_one_eq_mod v.toNat 4
  have hhigh : (v >>> 4).toNat = v.toNat / 16 := by
    rw [BitVec.toNat_ushiftRight, Nat.shiftRight_eq_div_pow]
  rw [toNat_shiftLeft_or _ _ (by omega), hlow, hhigh]
  omega

theorem getLsbD_zero_eq (v : Byte) : v.getLsbD 0 = decide (v.toNat % 2 = 1) := by
  rw [getLsbD_eq_div, Nat.pow_zero, Nat.div_one]

theorem getLsbD_seven_eq (v : Byte) : v.getLsbD 7 = decide (128 ≤ v.toNat) := by
  rw [getLsbD_eq_div]
  exact decide_eq_decide.mpr (by omega)

theorem getLsbD_zero_toNat (v : Byte) : (v.getLsbD 0).toNat = v.toNat % 2 := by
  rw [← BitVec.toNat_ofBool, toNat_ofBool_getLsbD, Nat.pow_zero, Nat.div_one]

theorem getLsbD_seven_toNat (v : Byte) : (v.getLsbD 7).toNat = v.toNat / 128 := by
  rw [← BitVec.toNat_ofBool, toNat_ofBool_getLsbD]
  omega

/-! SLA is RL with a carry of 0, SRL is RR with a carry of 0, and SRA is RR with a copy of bit 7 as the carry. -/

theorem rotOut_sla (v : Byte) (carry : Bool) : rotOut .sla v carry = rotOut .rl v false :=
  congrArg (rotFlags · (v.getLsbD 7)) BitVec.or_zero.symm

theorem rotOut_srl (v : Byte) (carry : Bool) : rotOut .srl v carry = rotOut .rr v false :=
  congrArg (rotFlags · (v.getLsbD 0)) BitVec.or_zero.symm

theorem and_0x80_eq_carryHigh (v : Byte) : v &&& 0x80 = carryHigh (v.getLsbD 7) := by
  revert v
  decide

theorem rotOut_sra (v : Byte) (carry : Bool) : rotOut .sra v carry = rotOut .rr v (v.getLsbD 7) :=
  congrArg (fun b => rotFlags ((v >>> 1) ||| b) (v.getLsbD 0)) (and_0x80_eq_carryHigh v)

/-- The result of a rotate or shift in integers: apart from SWAP, one bit enters at bit 0 or at bit 7. -/
theorem rotOut_r_toNat (op : RotOp) (v : Byte) (carry : Bool) :
    (rotOut op v carry).r.toNat = (rotateValue op v.toNat carry.toNat).1 := by
  cases op with
  | rlc => exact (shiftLeft_or_carryLow_toNat v _).trans (by rw [getLsbD_seven_toNat, rotateValue])
  | rrc => exact (shiftRight_or_carryHigh_toNat v _).trans (by rw [getLsbD_zero_toNat, rotateValue])
  | rl => exact shiftLeft_or_carryLow_toNat v carry
  | rr => exact shiftRight_or_carryHigh_toNat v carry
  | sla => exact rotOut_sla v carry ▸ shiftLeft_or_carryLow_toNat v false
  | sra =>
    rw [rotOut_sra]
    exact (shiftRight_or_carryHigh_toNat v _).trans (by rw [getLsbD_seven_toNat, rotateValue])
  | swap => exact swap_toNat v
  | srl => exact rotOut_srl v carry ▸ shiftRight_or_carryHigh_toNat v false

/-- The carry of a rotate or shift in integers: bit 7 to the left, bit 0 to the right, 0 for SWAP. -/
theorem rotOut_c_eq (op : RotOp) (v : Byte) (carry : Bool) :
    (rotOut op v carry).c = (rotateValue op v.toNat carry.toNat).2 := by
  cases op with
  | rlc | rl | sla => exact getLsbD_seven_eq v
  | rrc | rr | sra | srl => exact getLsbD_zero_eq v
  | swap => rfl

/-- The flags of the CB page by the value of the result (R153). -/
theorem rotFlags_of_toNat {r : Byte} {n : Nat} (hr : r.toNat = n) (c : Bool) :
    rotFlags r c = ⟨BitVec.ofNat 8 n, decide (n = 0), false, false, c⟩ := by
  subst hr
  rw [rotFlags, byte_beq_zero, BitVec.ofNat_toNat, BitVec.setWidth_eq]

/-- `rotOut` in integers (R154 to R168). -/
theorem rotOut_eq (op : RotOp) (v : Byte) (carry : Bool) :
    rotOut op v carry =
      let value := rotateValue op v.toNat carry.toNat
      ⟨BitVec.ofNat 8 value.1, decide (value.1 = 0), false, false, value.2⟩ := by
  have hflags : rotOut op v carry = rotFlags (rotOut op v carry).r (rotOut op v carry).c := by
    cases op <;> rfl
  rw [hflags, rotFlags_of_toNat (rotOut_r_toNat op v carry), rotOut_c_eq]

/-! ### The meanings of the instruction groups (R149 to R169) -/

/-- A rotate of A writes A and F, with Z = N = H = 0, and nothing else. -/
theorem rotA_eq (op : RotOp) (s : State) :
    let out := rotOut op s.regs.a s.flagC
    rotA op s = .next { s with
      regs := { s.regs with a := out.r, f := flagByte false false false out.c }
      cycles := 4 } := rfl

/-- A CB-page rotate or shift writes back what `rotOut` gives (R153). -/
theorem exec_rot_wroteBack (o : ByteOperand) (op : RotOp) (s : State) {out : AluOut}
    (hout : rotOut op (o.value s) s.flagC = out) :
    o.wroteBack s (exec (o.rot op) s) out.r (flagByte out.z out.n out.h out.c) (o.cost 8 16) := by
  subst hout
  cases o with
  | reg r => exact exec_rot op r s ▸ wroteBack_setR8 r s _ 8
  | atHL => exact exec_rotHL op s ▸ wroteBack_setAtHL s _ 16

end Sys2Proof.Machine

/-! ### The obligations -/

namespace Sys2Proof.Scope

open Sys2Proof Sys2Proof.Machine

/-- Settles O48: each is the rotate of its CB-page namesake, `rotOut`, with only its carry among the flags. -/
theorem accumulatorRotates : Obligations.AccumulatorRotates := by
  unfold Obligations.AccumulatorRotates
  intro s rotates
  have hrotates (i : Instr) (op : RotOp) (hexec : exec i s = rotA op s) : rotates i op := by
    refine ⟨_, hexec.trans (rotA_eq op s), rotOut_r_toNat .., ?_, rfl⟩
    rw [flagByte_toNat, rotOut_c_eq]
    rfl
  exact ⟨hrotates .rlca .rlc rfl, hrotates .rrca .rrc rfl, hrotates .rla .rl rfl, hrotates .rra .rr rfl⟩

/-- Settles O49: every operand is written back what `rotOut` gives, with its flags. -/
theorem rotatesAndShifts : Obligations.RotatesAndShifts := by
  unfold Obligations.RotatesAndShifts
  intro s o op
  dsimp only
  rw [← flagByte_eq_flagsValue]
  exact exec_rot_wroteBack o op s (rotOut_eq ..)

end Sys2Proof.Scope
end

section
/-! PROOFS. The single-bit instructions: the statements O50 and O51. The lemmas about the model come first. -/

namespace Sys2Proof.Machine

open Sys2Proof

/-! ### One bit of a byte (R170 to R175) -/

/-- The mask of a bit has that bit and no other. -/
theorem getLsbD_bitMask {k : Nat} (hk : k < 8) (i : Nat) : (bitMask k).getLsbD i = decide (i = k) := by
  rw [bitMask, ← BitVec.twoPow_eq, BitVec.getLsbD_twoPow, decide_eq_true hk, Bool.true_and]
  exact decide_eq_decide.mpr eq_comm

theorem getLsbD_clearBit (v : Byte) (b : Fin 8) {i : Nat} (hi : i < 8) :
    (clearBit v b).getLsbD i = (v.getLsbD i && decide (i ≠ b.val)) := by
  rw [clearBit, BitVec.getLsbD_and, BitVec.getLsbD_not, getLsbD_bitMask b.isLt, decide_eq_true hi, Bool.true_and,
    decide_not]

theorem getLsbD_setBit (v : Byte) (b : Fin 8) (i : Nat) :
    (setBit v b).getLsbD i = (v.getLsbD i || decide (i = b.val)) := by
  rw [setBit, BitVec.getLsbD_or, getLsbD_bitMask b.isLt]

/-- A bit is 0 exactly when its place in the value is even: the Z of BIT in integers (R170). -/
theorem not_getLsbD_eq (v : Byte) (k : Nat) : (!v.getLsbD k) = decide (v.toNat / 2 ^ k % 2 = 0) := by
  rw [getLsbD_eq_div, ← decide_not]
  exact decide_eq_decide.mpr Nat.mod_two_ne_one

/-! ### The meanings of the instruction groups (R170 to R175) -/

/-- BIT on any operand writes F and nothing else (R170, R171). -/
theorem exec_bitOperand (o : ByteOperand) (b : Fin 8) (s : State) :
    exec (o.bit b) s = .next { s with
      regs := { s.regs with f := flagByte (!(o.value s).getLsbD b.val) false true s.flagC }
      cycles := o.cost 8 12 } := by
  cases o with
  | reg r => exact exec_bit b r s
  | atHL => exact exec_bitHL b s

/-- A byte written to a register with no flag. -/
theorem wroteBack_setR8_keepsFlags (r : R8) (s : State) (v : Byte) (c : Nat) :
    (ByteOperand.reg r).wroteBack s (done c (s.setR8 r v)) v s.regs.f c := by
  rw [ByteOperand.wroteBack, ← Regs.put_f s.regs r v]
  rfl

/-- RES writes back its operand with the bit cleared (R172, R173). -/
theorem exec_res_wroteBack (o : ByteOperand) (b : Fin 8) (s : State) :
    o.wroteBack s (exec (o.res b) s) (clearBit (o.value s) b) s.regs.f (o.cost 8 16) := by
  cases o with
  | reg r => exact exec_res b r s ▸ wroteBack_setR8_keepsFlags r s _ 8
  | atHL => exact exec_resHL b s ▸ done_busWrite_stores s s.hl _ 16

/-- SET writes back its operand with the bit set (R174, R175). -/
theorem exec_set_wroteBack (o : ByteOperand) (b : Fin 8) (s : State) :
    o.wroteBack s (exec (o.set b) s) (setBit (o.value s) b) s.regs.f (o.cost 8 16) := by
  cases o with
  | reg r => exact exec_set b r s ▸ wroteBack_setR8_keepsFlags r s _ 8
  | atHL => exact exec_setHL b s ▸ done_busWrite_stores s s.hl _ 16

end Sys2Proof.Machine

/-! ### The obligations -/

namespace Sys2Proof.Scope

open Sys2Proof Sys2Proof.Machine

/-- Settles O50: BIT writes only F, and its Z is the negated bit, read off in integers. -/
theorem bitTests : Obligations.BitTests := by
  unfold Obligations.BitTests
  intro s o b
  refine ⟨_, exec_bitOperand o b s, ?_, rfl⟩
  rw [flagByte_toNat, not_getLsbD_eq]
  rfl

/-- Settles O51: RES and SET write back `clearBit` and `setBit` of the operand, whose other bits are the operand's. -/
theorem bitResetAndSet : Obligations.BitResetAndSet := by
  unfold Obligations.BitResetAndSet
  intro s o b
  exact ⟨_, _, fun i hi => ⟨getLsbD_clearBit _ b hi, getLsbD_setBit _ b i⟩, exec_res_wroteBack o b s,
    exec_set_wroteBack o b s⟩

end Sys2Proof.Scope
end

section
/-! PROOFS. The jumps: the statement O52. The lemmas about the model come first. -/

namespace Sys2Proof.Machine

open Sys2Proof

/-! ### The meanings of the conditional jumps (R178, R181) -/

theorem exec_jpIf (cc : Cond) (a : Word) (s : State) : exec (.jpIf cc a) s = jumpIf cc a s := by
  cases cc <;> rfl
theorem exec_jrIf (cc : Cond) (e : Byte) (s : State) : exec (.jrIf cc e) s = jumpRelIf cc e s := by
  cases cc <;> rfl

end Sys2Proof.Machine

/-! ### The obligations -/

namespace Sys2Proof.Scope

open Sys2Proof Sys2Proof.Machine

/-- Settles O52: each is one write of PC, for the conditional forms only where the flag bits meet the condition. -/
theorem jumps : Obligations.Jumps := by
  unfold Obligations.Jumps
  intro s a e goes holds
  have hholds (cc : Cond) : holds cc = s.cond cc := by cases cc <;> rfl
  refine ⟨s.relative e, toNat_add_sext16 s.regs.pc e, rfl, rfl, rfl, fun cc => ?_⟩
  dsimp only [goes]
  rw [hholds, exec_jpIf, exec_jrIf, jumpIf, jumpRelIf]
  split
  · exact ⟨rfl, rfl⟩
  · exact ⟨rfl, rfl⟩

end Sys2Proof.Scope
end

section
/-! PROOFS. CPU control, DAA, the flag instructions and the unrecognized opcodes: the statements O55, O56, O58 and
O59. The lemmas about the model come first. -/

namespace Sys2Proof.Machine

open Sys2Proof

/-- The complement of a byte in integers (R195). -/
theorem xor_0xFF_eq (v : Byte) : v ^^^ 0xFF = BitVec.ofNat 8 (255 - v.toNat) := by
  revert v
  decide

/-- An instruction of R82 is the unrecognized opcode of its byte. -/
theorem exec_of_unrecognizedByte {i : Instr} {op : Byte} (h : unrecognizedByte i = some op) (s : State) :
    exec i s = unrecognized op s := by
  unfold unrecognizedByte at h
  split at h
  case h_12 => cases h
  all_goals
    cases h
    rfl

/-- An unrecognized opcode leaves a diagnostic, and the Locked run-state under Lock (R199, R200). -/
theorem unrecognized_eq (op : Byte) (s : State) :
    unrecognized op s = .next { s with
      run := match s.cfg.illegalOpcodeMode with
        | .lenient => s.run
        | .lock => .locked
      out := { s.out with diagnostics := s.out.diagnostics ++ [.unrecognizedOpcode (s.regs.pc - 1) op] }
      cycles := 4 } := by
  unfold unrecognized
  cases s.cfg.illegalOpcodeMode <;> rfl

/-- A small byte taken from a byte, in natural numbers: 512 keeps the difference positive (R9). -/
theorem ofInt_sub_toNat (a : Byte) {high low : Nat} (hhigh : high ≤ 256) (hlow : low ≤ 256) :
    (BitVec.ofInt 8 ((a.toNat : Int) - ((high + low : Nat) : Int))).toNat = (a.toNat + 512 - high - low) % 256 := by
  rw [Int.natCast_add, ← Int.sub_sub, ofInt_sub_eq_ofNat hhigh hlow, BitVec.toNat_ofNat]

/-- The result of DAA in integers: each nibble's adjustment is taken on its own condition, added for N = 0 and
subtracted for N = 1 (R194). -/
theorem daaOut_r_toNat (v : Byte) (n h c : Bool) :
    let a := v.toNat
    let high := if c = true ∨ (n = false ∧ 0x99 < a) then 0x60 else 0
    let low := if h = true ∨ (n = false ∧ 0x09 < a % 16) then 0x06 else 0
    (daaOut v n h c).r.toNat = if n then (a + 512 - high - low) % 256 else (a + high + low) % 256 := by
  cases n with
  | true =>
    simp only [daaOut, daaSubAdjust, if_true, reduceCtorEq, false_and, or_false]
    exact ofInt_sub_toNat v (by split <;> decide) (by split <;> decide)
  | false =>
    simp only [daaOut, daaAddAdjust, Bool.or_eq_true, decide_eq_true_eq, true_and, gt_iff_lt, Bool.false_eq_true,
      if_false, BitVec.toNat_ofNat, Nat.add_assoc]

/-- The carry of DAA in integers: kept, or set by an addition's result above 0x99 (R194). -/
theorem daaOut_c_eq (v : Byte) (n h c : Bool) :
    (daaOut v n h c).c = (c || (!n && decide (0x99 < v.toNat))) := by
  cases n
  · rfl
  · exact (Bool.or_false c).symm

end Sys2Proof.Machine

/-! ### The obligations -/

namespace Sys2Proof.Scope

open Sys2Proof Sys2Proof.Machine

/-- Settles O55: each writes its part of the state and the cost. -/
theorem cpuControl : Obligations.CpuControl := by
  unfold Obligations.CpuControl
  intro s n
  exact ⟨rfl, rfl, rfl, rfl, rfl⟩

/-- Settles O56: DAA writes what `daaOut` gives, read off in integers. -/
theorem decimalAdjust : Obligations.DecimalAdjust := by
  unfold Obligations.DecimalAdjust
  intro s a n h c high low r
  have hr : (daaOut s.regs.a n h c).r.toNat = r := daaOut_r_toNat ..
  refine ⟨_, exec_daa s rfl, hr, ?_, rfl⟩
  rw [flagByte_toNat, ← hr, ← daaOut_c_eq s.regs.a n h c, ← byte_beq_zero]
  rfl

/-- Settles O58: each writes the flag byte of its flags, and CPL the complement of A. -/
theorem complementAndCarry : Obligations.ComplementAndCarry := by
  unfold Obligations.ComplementAndCarry
  intro s z c leaves
  simp only [leaves, ← flagByte_eq_flagsValue, ← xor_0xFF_eq]
  exact ⟨rfl, rfl, rfl⟩

/-- Settles O59: all eleven are `unrecognized` of their byte. -/
theorem unrecognizedOpcodes : Obligations.UnrecognizedOpcodes := by
  unfold Obligations.UnrecognizedOpcodes
  intro s i op h
  exact (exec_of_unrecognizedByte h s).trans (unrecognized_eq op s)

end Sys2Proof.Scope
end

section
/-! PROOFS. The branches of a step, dispatch and entry of interrupts, Halted, Stopped and Locked, the EI delay, the
trace and the costs: the statements O6 and O14 to O20. The lemmas about the model come first. -/

namespace Sys2Proof.Machine

open Sys2Proof

/-! ### Requests (R203, R206, R209) -/

theorem Interrupt.forall_iff {P : Interrupt → Prop} :
    (∀ i, P i) ↔ P .vblank ∧ P .lcdStat ∧ P .timer ∧ P .serial ∧ P .joypad := by
  refine ⟨fun h => ⟨h _, h _, h _, h _, h _⟩, fun ⟨h0, h1, h2, h3, h4⟩ i => ?_⟩
  cases i <;> assumption

/-- A source is pending when it is both enabled and requested (R203). -/
theorem State.pending_bit (s : State) (i : Interrupt) :
    s.pending.getLsbD i.bit = true ↔
      (s.raw ioIe).getLsbD i.bit = true ∧ (s.raw ioIf).getLsbD i.bit = true := by
  have hmask : (0x1F : Byte).getLsbD i.bit = true := by cases i <;> rfl
  rw [State.pending, BitVec.getLsbD_and, BitVec.getLsbD_and, hmask, Bool.and_true, Bool.and_eq_true]

/-- Only the bits of the five sources can be pending. -/
theorem State.pending_eq_zero (s : State) :
    s.pending = 0 ↔ ∀ j : Interrupt, ¬s.pending.getLsbD j.bit = true := by
  have hmask (p : Byte) : p &&& 0x1F = 0 ↔ ∀ j : Interrupt, ¬(p &&& 0x1F).getLsbD j.bit = true := by
    rw [Interrupt.forall_iff]
    revert p
    decide
  exact hmask _

/-- The source of the lowest bit that is set (R209). -/
theorem lowestRequest_eq_some (p : Byte) (i : Interrupt) :
    lowestRequest p = some i ↔
      p.getLsbD i.bit = true ∧ ∀ j : Interrupt, j.bit < i.bit → ¬p.getLsbD j.bit = true := by
  rw [Interrupt.forall_iff]
  unfold lowestRequest
  cases i <;> split_ifs <;> simp_all [Interrupt.bit]

theorem lowestRequest_eq_none (p : Byte) :
    lowestRequest p = none ↔ ∀ j : Interrupt, ¬p.getLsbD j.bit = true := by
  rw [Interrupt.forall_iff]
  unfold lowestRequest
  split_ifs <;> simp_all [Interrupt.bit]

theorem State.dispatched_eq_some (s : State) (i : Interrupt) :
    s.dispatched = some i ↔
      s.ime = true ∧ s.pending.getLsbD i.bit = true ∧
        ∀ j : Interrupt, j.bit < i.bit → ¬s.pending.getLsbD j.bit = true := by
  rw [← lowestRequest_eq_some, State.dispatched]
  cases s.ime <;> simp

theorem State.dispatched_eq_none_iff (s : State) :
    s.dispatched = none ↔ s.ime = false ∨ ∀ j : Interrupt, ¬s.pending.getLsbD j.bit = true := by
  rw [← lowestRequest_eq_none, State.dispatched]
  cases s.ime <;> simp

/-! ### The prelude (R204 (a), (c)) -/

/-- The commit at the start of a step changes the two enables only (R204 (a), R205). -/
theorem State.commitAtStart_eq (s : State) :
    s.commitAtStart = { s with ime := s.commitAtStart.ime, imePending := s.commitAtStart.imePending } := by
  unfold State.commitAtStart
  split <;> rfl

@[simp] theorem State.commitAtStart_regs (s : State) : s.commitAtStart.regs = s.regs := by
  rw [State.commitAtStart_eq]
@[simp] theorem State.commitAtStart_run (s : State) : s.commitAtStart.run = s.run := by
  rw [State.commitAtStart_eq]
@[simp] theorem State.commitAtStart_pending (s : State) : s.commitAtStart.pending = s.pending := by
  rw [State.commitAtStart_eq]
  rfl
@[simp] theorem State.commitAtStart_busRead (s : State) (a : Word) : s.commitAtStart.busRead a = s.busRead a := by
  rw [State.commitAtStart_eq]
  rfl

/-- Under StepStart a pending enable is committed (R204 (a)). -/
theorem State.commitAtStart_of_stepStart {s : State} (hcfg : s.cfg.eiCommit = .stepStart) (hp : s.imePending = true) :
    s.commitAtStart = s.commitEnable := if_pos ⟨hcfg, hp⟩

/-- Else the step starts as it is. -/
theorem State.commitAtStart_of_not {s : State} (h : s.cfg.eiCommit = .afterNextInstruction ∨ s.imePending = false) :
    s.commitAtStart = s := if_neg (by rcases h with h | h <;> simp [h])

/-- The prelude is the commit, then the wake-up of a Halted CPU with a source pending. -/
theorem State.prelude_eq_commitAtStart (s : State) :
    s.prelude = { s.commitAtStart with run := if s.run = .halted ∧ s.pending ≠ 0 then .running else s.run } := by
  unfold State.prelude State.wake
  rw [State.commitAtStart_run, State.commitAtStart_pending]
  split
  · rfl
  · rw [← State.commitAtStart_run]

/-- After the prelude a CPU runs that ran before it or was woken (R190, R204 (c)). -/
theorem State.prelude_run_eq_running (s : State) :
    s.prelude.run = .running ↔ s.run = .running ∨ (s.run = .halted ∧ s.pending ≠ 0) := by
  have hrun : s.prelude.run = if s.run = .halted ∧ s.pending ≠ 0 then .running else s.run :=
    congrArg State.run s.prelude_eq_commitAtStart
  rw [hrun]
  by_cases h : s.run = .halted ∧ s.pending ≠ 0
  · exact iff_of_true (if_pos h) (.inr h)
  · rw [if_neg h]
    exact (or_iff_left h).symm

@[simp] theorem State.prelude_raw (s : State) (a : Word) : s.prelude.raw a = s.raw a := by
  rw [State.prelude_eq]
  rfl
@[simp] theorem State.prelude_pending (s : State) : s.prelude.pending = s.pending := by
  rw [State.prelude_eq]
  rfl
@[simp] theorem State.prelude_out (s : State) : s.prelude.out = s.out := by
  rw [State.prelude_eq]
@[simp] theorem State.prelude_ppu (s : State) : s.prelude.ppu = s.ppu := by
  rw [State.prelude_eq]
@[simp] theorem State.prelude_cfg (s : State) : s.prelude.cfg = s.cfg := by
  rw [State.prelude_eq]

/-- A CPU that is not woken passes the wake-up unchanged. -/
theorem State.prelude_of_not_woken {s : State} (h : ¬(s.run = .halted ∧ s.pending ≠ 0)) :
    s.prelude = s.commitAtStart := by
  rw [State.prelude_eq_commitAtStart, if_neg h, ← State.commitAtStart_run]

/-- Without a commit the prelude leaves the two enables alone. -/
theorem State.prelude_enables {s : State} (hcfg : s.cfg.eiCommit = .afterNextInstruction) :
    s.prelude.ime = s.ime ∧ s.prelude.imePending = s.imePending := by
  rw [State.prelude_eq_commitAtStart, State.commitAtStart_of_not (.inl hcfg)]
  exact ⟨rfl, rfl⟩

/-- The prelude never clears IME. -/
theorem State.prelude_ime_of_ime {s : State} (h : s.ime = true) : s.prelude.ime = true := by
  rw [State.prelude_eq_commitAtStart, State.commitAtStart]
  split
  · rfl
  · exact h

/-! ### The branch of a step (R204, R231) -/

/-- A Running CPU takes the interrupt that is dispatched (R204 (d)). -/
theorem State.stepKind_of_dispatched {s : State} {i : Interrupt} (hrun : s.run = .running)
    (hd : s.dispatched = some i) : s.stepKind = .interrupt i := by
  simp [State.stepKind, hrun, hd]

theorem State.stepKind_not_running {s : State} (h : s.run ≠ .running) : s.stepKind = .wait 4 := by
  unfold State.stepKind
  cases hr : s.run
  case running => exact absurd hr h
  all_goals rfl

/-- A step that waits. -/
theorem step_wait {s : State} {c : Nat} (h : s.prelude.stepKind = .wait c) :
    step s = .next (s.prelude.finishWait c) := by
  rw [step, h]

/-- A step that takes an interrupt. -/
theorem step_interrupt {s : State} {i : Interrupt} (h : s.prelude.stepKind = .interrupt i) :
    step s = .next (s.prelude.finishInterrupt i) := by
  rw [step, h]

/-- A step looks at nothing but what its prelude leaves. -/
theorem step_eq_of_prelude_eq {s t : State} (h : s.prelude = t.prelude) : step s = step t := by
  rw [step, step, h]

/-- Every step answers a next state (R202). -/
theorem step_answers (s : State) : ∃ t, step s = .next t := by
  cases hk : s.prelude.stepKind with
  | wait c => exact ⟨_, step_wait hk⟩
  | interrupt i => exact ⟨_, step_interrupt hk⟩
  | execute =>
    obtain ⟨u, hu, -⟩ := exec_touch s.prelude.fetchInstr s.prelude.afterFetch
    exact ⟨_, step_execute hk hu⟩

/-- The step of a CPU that neither runs nor wakes: it waits for 4 cycles (R204 (b), (c), R231). -/
theorem step_of_waiting {s : State} (hrun : s.run ≠ .running) (hwake : ¬(s.run = .halted ∧ s.pending ≠ 0)) :
    step s = .next { s.commitAtStart with cycles := 4 }.advanceDevices := by
  have hk : s.prelude.stepKind = .wait 4 := by
    rw [State.prelude_of_not_woken hwake]
    exact State.stepKind_not_running (by rwa [State.commitAtStart_run])
  rw [step_wait hk, State.prelude_of_not_woken hwake]
  rfl

/-! ### What the devices leave alone (R214, R217, R232) -/

@[simp] theorem State.advanceDevices_regs (s : State) : s.advanceDevices.regs = s.regs := by
  rw [s.advanceDevices_frame.same]
@[simp] theorem State.advanceDevices_ime (s : State) : s.advanceDevices.ime = s.ime := by
  rw [s.advanceDevices_frame.same]
@[simp] theorem State.advanceDevices_imePending (s : State) : s.advanceDevices.imePending = s.imePending := by
  rw [s.advanceDevices_frame.same]
@[simp] theorem State.advanceDevices_run (s : State) : s.advanceDevices.run = s.run := by
  rw [s.advanceDevices_frame.same]
@[simp] theorem State.advanceDevices_cycles (s : State) : s.advanceDevices.cycles = s.cycles := by
  rw [s.advanceDevices_frame.same]
@[simp] theorem State.advanceDevices_cfg (s : State) : s.advanceDevices.cfg = s.cfg := by
  rw [s.advanceDevices_frame.same]
@[simp] theorem State.advanceDevices_trace (s : State) : s.advanceDevices.out.trace = s.out.trace := by
  rw [s.advanceDevices_frame.same]

/-- A bus read looks at the cartridge, the overlay, the joypad and one byte of the backing array (R46). -/
theorem DeviceFrame.busRead {s t : State} (h : DeviceFrame s t) {a : Word}
    (ha : a ∉ [ioDiv, ioTima, ioIf, ioLy, ioStat]) : t.busRead a = s.busRead a := by
  have hraw : t.raw a = s.raw a := h.raw a ha
  have hsame := h.same
  have hover : t.overlaid a = s.overlaid a := by
    rw [hsame]
    rfl
  have hboot : t.boot = s.boot := by rw [hsame]
  have hcart : t.cart = s.cart := by rw [hsame]
  have hselect : t.joypSelect = s.joypSelect := by rw [hsame]
  have hbuttons : t.buttons = s.buttons := by rw [hsame]
  simp only [State.busRead, hraw, hover, hboot, hcart, hselect, hbuttons]

/-! ### The end of an executing step (R204 (e), R205, R229) -/

/-- The trace entry is the only effect of the trace: enabled, it is one tuple more (R229). -/
theorem State.traceStep_trace (before after : State) :
    (before.traceStep after).out.trace =
      if after.cfg.traceEnabled = true then
        after.out.trace ++
          [⟨before.regs.pc, before.busRead before.regs.pc, after.cycles, after.out.totalCycles⟩]
      else after.out.trace := by
  unfold State.traceStep
  split <;> rfl

/-- The trace after an executing step: the tuple holds the cost and the count that the step ends with. -/
theorem State.finishInstr_trace (before after : State) :
    (before.finishInstr after).out.trace =
      if after.cfg.traceEnabled = true then
        after.out.trace ++ [⟨before.regs.pc, before.busRead before.regs.pc, (before.finishInstr after).cycles,
          (before.finishInstr after).out.totalCycles⟩]
      else after.out.trace := by
  have hend := before.traceStep_eq (before.commitAfter after).advanceDevices
  have hcycles : (before.finishInstr after).cycles = (before.commitAfter after).advanceDevices.cycles := by
    rw [State.finishInstr, hend]
  have htotal : (before.finishInstr after).out.totalCycles =
      (before.commitAfter after).advanceDevices.out.totalCycles := by
    rw [State.finishInstr, hend]
  have hcfg : (before.commitAfter after).advanceDevices.cfg = after.cfg := by
    rw [State.advanceDevices_cfg, State.commitAfter_eq]
  have htrace : (before.commitAfter after).advanceDevices.out.trace = after.out.trace := by
    rw [State.advanceDevices_trace, State.commitAfter_eq]
  rw [hcycles, htotal, State.finishInstr, State.traceStep_trace, hcfg, htrace]

/-- An enable that was pending before the fetch and still is is committed (R205). -/
theorem State.commitAfter_of_pending {before after : State} (hcfg : after.cfg.eiCommit = .afterNextInstruction)
    (hb : before.imePending = true) (ha : after.imePending = true) :
    before.commitAfter after = after.commitEnable := if_pos ⟨hcfg, hb, ha⟩

/-- Else nothing is. -/
theorem State.commitAfter_of_not {before after : State}
    (h : before.imePending = false ∨ after.imePending = false) : before.commitAfter after = after :=
  if_neg (by rcases h with h | h <;> simp [h])

/-- After an instruction that began with a pending enable nothing is pending, and IME is 1 but for DI, which alone
cancels the enable (`Touch.pending`). -/
theorem State.commitAfter_exec {before s u : State} {i : Instr} (hcfg : s.cfg.eiCommit = .afterNextInstruction)
    (hb : before.imePending = true) (hs : s.imePending = true) (hu : exec i s = .next u) :
    (before.commitAfter u).imePending = false ∧ (before.commitAfter u).ime = decide (i ≠ .di) := by
  by_cases hi : i = .di
  · subst hi
    obtain rfl : { s with ime := false, imePending := false, cycles := 4 } = u := Host.Outcome.next.inj hu
    rw [State.commitAfter_of_not (.inr rfl)]
    exact ⟨rfl, by simp⟩
  · obtain ⟨htouch, -⟩ := touch_of_exec hu
    have hkept : u.imePending = true := htouch.pending (isDi_of_ne hi) hs
    rw [State.commitAfter_of_pending (htouch.cfg ▸ hcfg) hb hkept]
    exact ⟨rfl, by simp [hi]⟩

/-- The enables after a step that executes. -/
theorem step_execute_enables {s u : State} (hk : s.prelude.stepKind = .execute)
    (hu : exec s.prelude.fetchInstr s.prelude.afterFetch = .next u) :
    ∃ t, step s = .next t ∧ t.ime = (s.prelude.commitAfter u).ime ∧
      t.imePending = (s.prelude.commitAfter u).imePending := by
  refine ⟨_, step_execute hk hu, ?_⟩
  rw [State.finishInstr, State.traceStep_eq]
  exact ⟨State.advanceDevices_ime _, State.advanceDevices_imePending _⟩

/-! ### The costs and the counts of a step (R16, R232) -/

/-- Counting the cycles of a step, by its cost (R232). -/
theorem State.countCycles_eq {s : State} {c : Nat} (h : s.cycles = c) :
    s.countCycles = { s with out := { s.out with totalCycles := s.out.totalCycles + c } } := by
  rw [← h]
  rfl

/-- What the CPU's part of a step leaves, with its cost; from there the devices advance, and the trace is
appended. -/
theorem step_advances_cost {s t : State} (h : step s = .next t) :
    ∃ u tr, Touch true s.prelude u ∧ u.cycles ∈ stepCosts ∧
      t = { u.advanceDevices with out := { u.advanceDevices.out with trace := tr } } := by
  obtain ⟨u, ⟨tr, ht⟩, hu⟩ := step_devices h
  exact ⟨u, tr, (step_touch hu).1, (step_touch hu).2, ht⟩

end Sys2Proof.Machine

/-! ### The obligations -/

namespace Sys2Proof.Scope

open Sys2Proof Sys2Proof.Machine

/-- Settles O6: `exec_touch` gives an instruction's answer, and each branch of a step answers. -/
theorem everyStepAnswersNext : Obligations.EveryStepAnswersNext := by
  unfold Obligations.EveryStepAnswersNext
  refine ⟨fun i s => ?_, step_answers⟩
  obtain ⟨t, ht, -⟩ := exec_touch i s
  exact ⟨t, ht⟩

/-- Settles O14: the entry is one equation, and no source has a lower bit than V-Blank's. -/
theorem interruptEntry : Obligations.InterruptEntry := by
  unfold Obligations.InterruptEntry
  refine ⟨fun s i hk => ?_, fun s hrun hime hie hif => ?_⟩
  · rw [step_interrupt hk, State.finishInterrupt, State.takeInterrupt_eq, State.prelude_regs, State.prelude_raw]
    rfl
  · have hvblank : s.pending.getLsbD Interrupt.vblank.bit = true := (s.pending_bit .vblank).mpr ⟨hie, hif⟩
    have hpending : s.pending ≠ 0 := fun h => s.pending_eq_zero.mp h .vblank hvblank
    have hrun' : s.prelude.run = .running :=
      s.prelude_run_eq_running.mpr (hrun.imp_right fun h => ⟨h, hpending⟩)
    have hd : s.prelude.dispatched = some .vblank := by
      rw [State.dispatched_eq_some, State.prelude_pending]
      exact ⟨State.prelude_ime_of_ime hime, hvblank, fun j hj => absurd hj (Nat.not_lt_zero _)⟩
    exact State.stepKind_of_dispatched hrun' hd

/-- Settles O15: the lowest bit of `pending`, and the branch by the run-state that the prelude leaves. -/
theorem dispatchPriority : Obligations.DispatchPriority := by
  unfold Obligations.DispatchPriority
  refine ⟨fun s i => ?_, fun s => ?_, rfl, fun s => ?_, fun s => ⟨s.prelude_eq_commitAtStart, ?_⟩⟩
  · have hsome := s.dispatched_eq_some i
    simp only [State.pending_bit, and_assoc] at hsome
    exact hsome
  · have hnone := s.dispatched_eq_none_iff
    simp only [State.pending_bit] at hnone
    exact hnone
  · have hzero := s.pending_eq_zero
    simp only [State.pending_bit] at hzero
    exact hzero
  · split
    · next h =>
      have hrun : s.prelude.run = .running := s.prelude_run_eq_running.mpr h
      cases hd : s.prelude.dispatched with
      | some i => exact State.stepKind_of_dispatched hrun hd
      | none => exact State.stepKind_of_running hrun hd
    · next h => exact State.stepKind_not_running (mt s.prelude_run_eq_running.mp h)

/-- Settles O16: without a request the step waits; with one the prelude of the Halted CPU is the Running one's. -/
theorem haltWaitsAndWakes : Obligations.HaltWaitsAndWakes := by
  unfold Obligations.HaltWaitsAndWakes
  refine ⟨fun s hrun hp => ?_, fun s hrun hp => step_eq_of_prelude_eq ?_⟩
  · have hstep := step_of_waiting (s := s) (by simp [hrun]) (by simp [hp])
    refine ⟨hstep, fun t ht => ?_⟩
    obtain rfl := Host.Outcome.next.inj (hstep.symm.trans ht)
    simp [hrun]
  · have hcommit : ({ s with run := .running } : State).commitAtStart =
        { s.commitAtStart with run := .running } := by
      unfold State.commitAtStart
      split <;> rfl
    rw [State.prelude_eq_commitAtStart, State.prelude_eq_commitAtStart, hcommit, if_pos ⟨hrun, hp⟩]
    rfl

/-- Settles O17: such a step waits, and what a bus read looks at is the devices' five bytes or unchanged. -/
theorem stoppedAndLockedStay : Obligations.StoppedAndLockedStay := by
  unfold Obligations.StoppedAndLockedStay
  intro s hstuck
  have hstep := step_of_waiting (s := s) (by rcases hstuck with h | h <;> simp [h])
    (by rcases hstuck with h | h <;> simp [h])
  refine ⟨hstep, fun t ht => ?_⟩
  obtain rfl := Host.Outcome.next.inj (hstep.symm.trans ht)
  refine ⟨by simp, by simp, by simp, fun a ha => ?_⟩
  have hlisted : a ∉ [ioDiv, ioTima, ioIf, ioLy, ioStat] := by
    simp only [List.mem_cons, ioDiv, ioTima, ioIf, ioLy, ioStat] at ha ⊢
    tauto
  exact ((State.advanceDevices_frame _).busRead hlisted).trans (s.commitAtStart_busRead a)

/-- Settles O18: the end of a step commits what the instruction leaves pending, the prelude what the step found. -/
theorem enableDelay : Obligations.EnableDelay := by
  unfold Obligations.EnableDelay
  refine ⟨fun _ => rfl, fun _ _ => rfl, fun s hcfg hk hp hi => ?_, fun s hcfg hk hp => ?_, fun s hcfg hp => ?_⟩
  · obtain ⟨hime, hpend⟩ := State.prelude_enables hcfg
    have hexec : exec s.prelude.fetchInstr s.prelude.afterFetch =
        .next { s.prelude.afterFetch with imePending := true, cycles := 4 } := by
      rw [State.prelude_fetchInstr, hi]
      rfl
    obtain ⟨t, ht, himeT, hpendT⟩ := step_execute_enables hk hexec
    rw [State.commitAfter_of_not (.inl (hpend.trans hp))] at himeT hpendT
    exact ⟨t, ht, himeT.trans hime, hpendT⟩
  · obtain ⟨-, hpend⟩ := State.prelude_enables hcfg
    obtain ⟨u, hu, -⟩ := exec_touch s.prelude.fetchInstr s.prelude.afterFetch
    obtain ⟨t, ht, himeT, hpendT⟩ := step_execute_enables hk hu
    have hcfgFetch : s.prelude.afterFetch.cfg.eiCommit = .afterNextInstruction := by
      rw [State.afterFetch_cfg, State.prelude_cfg, hcfg]
    obtain ⟨hpendU, himeU⟩ := State.commitAfter_exec hcfgFetch (hpend.trans hp) (hpend.trans hp) hu
    rw [State.prelude_fetchInstr] at himeU
    exact ⟨t, ht, hpendT.trans hpendU, himeT.trans himeU⟩
  · have hcommitted : s.commitEnable.commitAtStart = s.commitEnable := State.commitAtStart_of_not (.inr rfl)
    have hcommit : s.commitAtStart = s.commitEnable.commitAtStart :=
      (State.commitAtStart_of_stepStart hcfg hp).trans hcommitted.symm
    exact step_eq_of_prelude_eq (congrArg State.wake hcommit)

/-- Settles O19: only the end of an executing step appends a tuple, after the devices have advanced. -/
theorem traceOfExecutedSteps : Obligations.TraceOfExecutedSteps := by
  unfold Obligations.TraceOfExecutedSteps
  refine ⟨State.traceStep_eq, fun s t h => ?_⟩
  rcases step_cases h with ⟨c, hk, rfl⟩ | ⟨i, hk, rfl⟩ | ⟨u, hk, hu, rfl⟩
  · simp [hk, State.finishWait]
  · simp [hk, State.finishInterrupt, (s.prelude.takeInterrupt_touch i).trace]
  · obtain ⟨htouch, -⟩ := touch_of_exec hu
    rw [State.finishInstr_trace, htouch.cfg, htouch.trace]
    simp [hk]

/-- Settles O20: each branch has its cost, and the devices and the count take it up. -/
theorem stepCostsAreCounted : Obligations.StepCostsAreCounted := by
  unfold Obligations.StepCostsAreCounted
  refine ⟨fun s => State.countCycles_eq s.advanceDevices_cycles, fun s t h => ?_⟩
  obtain ⟨u, tr, htouch, hcost, rfl⟩ := step_advances_cost h
  obtain ⟨htotal, -⟩ := u.advanceDevices_clock
  have hcycles : u.advanceDevices.cycles = u.cycles := u.advanceDevices_cycles
  refine ⟨hcycles ▸ hcost, htotal.trans ?_⟩
  rw [htouch.totalCycles, State.prelude_out, ← hcycles]

end Sys2Proof.Scope
end

section
/-! PROOFS. The timer in closed form: the statements O21 and O22. The lemmas about the model come first. -/

namespace Sys2Proof.Machine

open Sys2Proof

/-! ### One tick (R214) -/

theorem State.divTick_raw (s : State) {a : Word} (ha : a ≠ ioDiv) : s.divTick.raw a = s.raw a :=
  (s.raw_setRaw ..).trans (if_neg ha)

theorem State.divTick_raw_div (s : State) : s.divTick.raw ioDiv = s.raw ioDiv + 1 :=
  s.raw_setRaw_same ..

theorem State.timaTick_raw (s : State) {a : Word} (hif : a ≠ ioIf) (htima : a ≠ ioTima) :
    s.timaTick.raw a = s.raw a := by
  unfold State.timaTick
  split
  · rw [State.raw_request, if_neg hif, State.raw_setRaw, if_neg htima]
  · rw [State.raw_setRaw, if_neg htima]

/-- A tick of a full counter reloads it and requests the interrupt (R214, D24). -/
theorem State.timaTick_overflow {s : State} (h : s.raw ioTima = 0xFF) :
    s.timaTick.raw ioTima = s.raw ioTma ∧ s.timaTick.raw ioIf = s.raw ioIf ||| 0x04 := by
  rw [State.timaTick, if_pos h, State.raw_request, State.raw_request, if_neg (by decide), if_pos rfl,
    State.raw_setRaw_same, State.raw_setRaw, if_neg (by decide)]
  exact ⟨rfl, rfl⟩

theorem State.timaTick_count {s : State} (h : s.raw ioTima ≠ 0xFF) :
    s.timaTick.raw ioTima = s.raw ioTima + 1 ∧ s.timaTick.raw ioIf = s.raw ioIf := by
  rw [State.timaTick, if_neg h, State.raw_setRaw_same, State.raw_setRaw, if_neg (by decide)]
  exact ⟨rfl, rfl⟩

/-! ### Any number of ticks (R214, R215) -/

theorem repeatTick_divTick_raw_div (n : Nat) (s : State) :
    ((repeatTick State.divTick n s).raw ioDiv).toNat = ((s.raw ioDiv).toNat + n) % 256 := by
  induction n generalizing s with
  | zero => exact (Nat.mod_eq_of_lt (s.raw ioDiv).isLt).symm
  | succ n ih =>
    have hnext : (s.raw ioDiv + 1).toNat = ((s.raw ioDiv).toNat + 1) % 256 := BitVec.toNat_add ..
    rw [repeatTick, ih, State.divTick_raw_div, hnext]
    omega

/-- The counter after `n` increments from `tima`: up to 0xFF, then from `tma` (R214). -/
def timaAfter (tima tma n : Nat) : Nat :=
  if tima + n < 256 then tima + n else tma + (tima + n - 256) % (256 - tma)

/-- From 0xFF the first increment reloads. -/
theorem timaAfter_overflow {tma : Nat} (htma : tma < 256) (n : Nat) :
    timaAfter 255 tma (n + 1) = timaAfter tma tma n := by
  have hsub : 255 + (n + 1) - 256 = n := by omega
  rw [timaAfter, timaAfter, if_neg (by omega), hsub]
  split
  · rw [Nat.mod_eq_of_lt (by omega)]
  · have hwrap : n - (256 - tma) = tma + n - 256 := by omega
    rw [Nat.mod_eq_sub_mod (by omega : n ≥ 256 - tma), hwrap]

theorem timaAfter_count (tima tma n : Nat) : timaAfter tima tma (n + 1) = timaAfter (tima + 1) tma n := by
  rw [timaAfter, timaAfter, ← Nat.add_assoc, Nat.add_right_comm]

/-- The counter and the requests after any number of ticks: any overflow requests the timer interrupt. -/
theorem repeatTick_timaTick (n : Nat) (s : State) :
    let tima := (s.raw ioTima).toNat
    ((repeatTick State.timaTick n s).raw ioTima).toNat = timaAfter tima (s.raw ioTma).toNat n ∧
      (repeatTick State.timaTick n s).raw ioIf = if tima + n < 256 then s.raw ioIf else s.raw ioIf ||| 0x04 := by
  induction n generalizing s with
  | zero =>
    have hlt : (s.raw ioTima).toNat + 0 < 256 := (s.raw ioTima).isLt
    exact ⟨(if_pos hlt).symm, (if_pos hlt).symm⟩
  | succ n ih =>
    obtain ⟨htima, hif⟩ := ih s.timaTick
    have htma : s.timaTick.raw ioTma = s.raw ioTma := s.timaTick_raw (by decide) (by decide)
    rw [htma] at htima
    dsimp only [repeatTick]
    rw [htima, hif]
    by_cases h : s.raw ioTima = 0xFF
    · obtain ⟨hreload, hrequest⟩ := State.timaTick_overflow h
      have hfull : (s.raw ioTima).toNat = 255 := congrArg BitVec.toNat h
      have hidem : s.raw ioIf ||| 0x04 ||| 0x04 = s.raw ioIf ||| 0x04 := by rw [BitVec.or_assoc, BitVec.or_self]
      have hlate : ¬255 + (n + 1) < 256 := by omega
      rw [hreload, hrequest, hfull, timaAfter_overflow (s.raw ioTma).isLt, if_neg hlate, hidem, ite_self]
      exact ⟨rfl, rfl⟩
    · obtain ⟨hcount, hkeep⟩ := State.timaTick_count h
      have hnext : (s.raw ioTima + 1).toNat = (s.raw ioTima).toNat + 1 := by
        have : (s.raw ioTima).toNat ≠ 255 := fun he => h (BitVec.eq_of_toNat_eq he)
        bv_omega
      rw [hcount, hkeep, hnext, timaAfter_count]
      exact ⟨rfl, if_congr (by omega) rfl rfl⟩

/-! ### The advance of the timer (R214, R215) -/

theorem State.divAdvance_raw (s : State) (c : Nat) {a : Word} (ha : a ≠ ioDiv) : (s.divAdvance c).raw a = s.raw a :=
  repeatTick_keeps (fun u => u.raw a) (fun u => u.divTick_raw ha) _ s

/-- The divider leaves the counter's accumulator alone. -/
theorem State.divAdvance_timaAcc (s : State) (c : Nat) : (s.divAdvance c).timer.timaAcc = s.timer.timaAcc :=
  repeatTick_keeps (tick := State.divTick) (fun u => u.timer.timaAcc) (fun _ => rfl) _ s

theorem State.timaAdvance_raw (s : State) (c : Nat) {a : Word} (hif : a ≠ ioIf) (htima : a ≠ ioTima) :
    (s.timaAdvance c).raw a = s.raw a := by
  unfold State.timaAdvance
  split
  · exact repeatTick_keeps (fun u => u.raw a) (fun u => u.timaTick_raw hif htima) _ s
  · rfl

/-- An enabled counter takes one increment per complete period, and the rest is kept. -/
theorem State.timaAdvance_enabled {s : State} (h : s.timerEnabled = true) (c : Nat) :
    let total := s.timer.timaAcc + c
    let period := timerPeriod (s.raw ioTac)
    (s.timaAdvance c).timer.timaAcc = total % period ∧
      ∀ a, (s.timaAdvance c).raw a = (repeatTick State.timaTick (total / period) s).raw a := by
  rw [State.timaAdvance, if_pos h]
  exact ⟨rfl, fun _ => rfl⟩

theorem timerPeriod_eq (tac : Byte) : timerPeriod tac = [1024, 16, 64, 256].getD (tac.toNat % 4) 0 := by
  have hlt : tac.toNat % 4 < 4 := Nat.mod_lt _ (by decide)
  unfold timerPeriod
  generalize tac.toNat % 4 = k at hlt
  interval_cases k <;> rfl

/-- The timer changes the backing array and its own state only. -/
theorem State.timerAdvance_eq (s : State) (c : Nat) :
    s.timerAdvance c = { s with mem := (s.timerAdvance c).mem, timer := (s.timerAdvance c).timer } := by
  have hsame := (s.timerAdvance_frame c).same
  obtain ⟨hppu, hout⟩ := s.timerAdvance_keeps c
  rw [hppu, hout] at hsame
  exact hsame

/-- Of the backing array it changes DIV, TIMA and IF only. -/
theorem State.timerAdvance_raw (s : State) (c : Nat) {a : Word} (hdiv : a ≠ ioDiv) (htima : a ≠ ioTima)
    (hif : a ≠ ioIf) : (s.timerAdvance c).raw a = s.raw a :=
  (State.timaAdvance_raw _ c hif htima).trans (s.divAdvance_raw c hdiv)

end Sys2Proof.Machine

/-! ### The obligations -/

namespace Sys2Proof.Scope

open Sys2Proof Sys2Proof.Machine

/-- Settles O21: the counter leaves DIV alone, and DIV is the sum of its ticks. -/
theorem dividerAdvance : Obligations.DividerAdvance := by
  unfold Obligations.DividerAdvance
  intro s c
  have hdiv : (s.timerAdvance c).raw ioDiv = (s.divAdvance c).raw ioDiv :=
    State.timaAdvance_raw _ c (by decide) (by decide)
  refine ⟨?_, s.timerAdvance_divAcc c⟩
  exact (congrArg BitVec.toNat hdiv).trans (repeatTick_divTick_raw_div _ s)

/-- Settles O22: the divider leaves what the counter reads alone; the ticks of an enabled counter are counted by
induction. -/
theorem counterAdvance : Obligations.CounterAdvance := by
  unfold Obligations.CounterAdvance
  intro s c period n tima tma t
  have hperiod : timerPeriod (s.raw ioTac) = period := timerPeriod_eq _
  have hkept (a : Word) (ha : a ≠ ioDiv) : (s.divAdvance c).raw a = s.raw a := s.divAdvance_raw c ha
  have hacc := s.divAdvance_timaAcc c
  have henabled : (s.divAdvance c).timerEnabled = (s.raw 0xFF07).getLsbD 2 :=
    congrArg (BitVec.getLsbD · 2) (hkept ioTac (by decide))
  refine ⟨⟨s.timerAdvance_eq c, fun a ha => ?_⟩, ?_⟩
  · simp only [List.mem_cons, not_or] at ha
    exact s.timerAdvance_raw c ha.1 ha.2.1 ha.2.2.1
  · split
    · next h =>
      obtain ⟨hrest, hraw⟩ := State.timaAdvance_enabled (henabled.trans h) c
      obtain ⟨htima, hif⟩ := repeatTick_timaTick n (s.divAdvance c)
      rw [hacc, hkept ioTac (by decide), hperiod] at hrest hraw
      rw [hkept ioTima (by decide), hkept ioTma (by decide)] at htima
      rw [hkept ioTima (by decide), hkept ioIf (by decide)] at hif
      exact ⟨hrest, (congrArg BitVec.toNat (hraw ioTima)).trans htima, (hraw ioIf).trans hif⟩
    · next h =>
      have hfrozen : t = s.divAdvance c := if_neg (henabled ▸ h)
      rw [hfrozen]
      exact ⟨hacc, hkept ioTima (by decide), hkept ioIf (by decide)⟩

end Sys2Proof.Scope
end

section
/-! PROOFS. The renderer: what it reads, the background and the window, the sprites: the statements O26, O28 and
O29. The lemmas about the model come first. -/

namespace Sys2Proof.Machine

open Sys2Proof

/-! ### The background and the window in integers (R220, R221) -/

/-- A renderer's byte with a bit set, as the statements write the test. -/
theorem getLsbD_iff_div (v : Byte) (k : Nat) : v.getLsbD k = true ↔ v.toNat / 2 ^ k % 2 = 1 := by
  rw [getLsbD_eq_div, decide_eq_true_eq]

theorem mapBase_eq (lcdc : Byte) (k : Nat) :
    mapBase lcdc k = if lcdc.toNat / 2 ^ k % 2 = 1 then 0x9C00 else 0x9800 :=
  if_congr (getLsbD_iff_div lcdc k) rfl rfl

theorem Memory.bgIndex_toNat (m : Memory) (ly x : Nat) :
    (m.bgIndex ly x).map BitVec.toNat =
      let lcdc := (m.read 0xFF40).toNat
      if lcdc % 2 = 1 then
        some (mapValue m (if lcdc / 8 % 2 = 1 then 0x9C00 else 0x9800)
          ((ly + (m.read 0xFF42).toNat) % 256) ((x + (m.read 0xFF43).toNat) % 256))
      else none := by
  have henabled : (m.io ioLcdc).getLsbD 0 = true ↔ (m.read 0xFF40).toNat % 2 = 1 := by
    rw [getLsbD_iff_div, Nat.pow_zero, Nat.div_one]
    rfl
  unfold Memory.bgIndex
  by_cases h : (m.io ioLcdc).getLsbD 0 = true
  · rw [if_pos h, Option.map_some, Memory.mapPixel_toNat, mapBase_eq]
    exact (if_pos (henabled.mp h)).symm
  · rw [if_neg h]
    exact (if_neg (mt henabled.mpr h)).symm

theorem Memory.windowIndex_toNat (m : Memory) (ly x : Nat) :
    (m.windowIndex ly x).map BitVec.toNat =
      let lcdc := (m.read 0xFF40).toNat
      let wy := (m.read 0xFF4A).toNat
      let wx := (m.read 0xFF4B).toNat
      if lcdc / 32 % 2 = 1 ∧ wy ≤ ly ∧ wx ≤ x + 7 then
        some (mapValue m (if lcdc / 64 % 2 = 1 then 0x9C00 else 0x9800) (ly - wy) (x + 7 - wx))
      else none := by
  have henabled : (m.io ioLcdc).getLsbD 5 = true ↔ (m.read 0xFF40).toNat / 32 % 2 = 1 := getLsbD_iff_div _ 5
  simp only [Memory.windowIndex, henabled]
  by_cases h : (m.read 0xFF40).toNat / 32 % 2 = 1 ∧ (m.io ioWy).toNat ≤ ly ∧ (m.io ioWx).toNat ≤ x + 7
  · rw [if_pos h, Option.map_some, Memory.mapPixel_toNat, mapBase_eq]
    exact (if_pos h).symm
  · rw [if_neg h]
    exact (if_neg h).symm

/-- What is drawn behind the sprites, the window over the background. -/
theorem Memory.backIndex_toNat (m : Memory) (ly x : Nat) :
    (m.backIndex ly x).map BitVec.toNat = behindValue m ly x := by
  rw [Memory.backIndex, Option.map_or, Memory.windowIndex_toNat, Memory.bgIndex_toNat]
  unfold behindValue
  dsimp only
  split <;> rfl

theorem Memory.backColour_toNat (m : Memory) (ly x : Nat) :
    (m.backColour ly x).toNat = (behindValue m ly x).getD 0 := by
  rw [← Memory.backIndex_toNat, Memory.backColour]
  cases m.backIndex ly x <;> rfl

theorem Memory.backShade_toNat (m : Memory) (ly x : Nat) : (m.backShade ly x).toNat = behindShadeValue m ly x := by
  rw [behindShadeValue, ← Memory.backIndex_toNat, Memory.backShade]
  cases m.backIndex ly x with
  | none => rfl
  | some i => exact paletteShade_toNat ..

/-! ### What a sprite paints, in integers (R222) -/

theorem Memory.spriteOnLine_iff (m : Memory) (ly n : Nat) : m.spriteOnLine ly n = true ↔ spriteMeets m ly n := by
  rw [Memory.spriteOnLine, Bool.and_eq_true, decide_eq_true_eq, decide_eq_true_eq, Memory.spriteHeight_eq, spriteMeets]
  show (oamValue m n 0 ≤ ly + 16 ∧ ly + 16 < oamValue m n 0 + heightValue m) ↔ _
  omega

theorem heightValue_cases (m : Memory) : heightValue m = 8 ∨ heightValue m = 16 := by
  unfold heightValue
  split
  · exact .inr rfl
  · exact .inl rfl

/-- The row of a sprite is one of its lines. -/
theorem Memory.spriteRow_lt {m : Memory} {ly n : Nat} (h : m.spriteOnLine ly n = true) :
    m.spriteRow ly n < m.spriteHeight := by
  simp only [Memory.spriteOnLine, Bool.and_eq_true, decide_eq_true_eq] at h
  simp only [Memory.spriteRow]
  split <;> omega

/-- The row in integers. -/
theorem Memory.spriteRow_eq {m : Memory} {ly n : Nat} (h : m.spriteOnLine ly n = true) :
    let row : Int := (ly : Int) - ((oamValue m n 0 : Int) - 16)
    m.spriteRow ly n =
      (if oamValue m n 3 / 64 % 2 = 1 then (heightValue m : Int) - 1 - row else row).toNat := by
  have hmeets := (m.spriteOnLine_iff ly n).mp h
  have hflip : (m.oam n 3).getLsbD 6 = true ↔ oamValue m n 3 / 64 % 2 = 1 := getLsbD_iff_div _ 6
  have hy : (m.oam n 0).toNat = oamValue m n 0 := rfl
  simp only [Memory.spriteRow, hflip, m.spriteHeight_eq, hy]
  unfold spriteMeets at hmeets
  split <;> omega

/-- The tile number with its low bit dropped, in integers. -/
theorem and_0xFE_toNat (v : Byte) : (v &&& 0xFE).toNat = v.toNat / 2 * 2 := by
  revert v
  decide

theorem Memory.spriteTile_eq (m : Memory) (n : Nat) :
    m.spriteTile n = if heightValue m = 16 then oamValue m n 2 / 2 * 2 else oamValue m n 2 := by
  rw [Memory.spriteTile, m.spriteHeight_eq, and_0xFE_toNat]
  rfl

/-- A sprite's tiles are in VRAM: at height 16 its tile number is even, and its row is below its height. -/
theorem Memory.spriteTile_range (m : Memory) (n : Nat) : 16 * m.spriteTile n + 2 * m.spriteHeight ≤ 0x1000 := by
  have hlt : oamValue m n 2 < 256 := (m.oam n 2).isLt
  rw [m.spriteTile_eq, m.spriteHeight_eq]
  rcases heightValue_cases m with h8 | h16
  · rw [if_neg (by omega)]
    omega
  · rw [if_pos h16]
    omega

theorem Memory.spritePalette_eq (m : Memory) (n : Nat) :
    m.spritePalette n = m.read (if oamValue m n 3 / 16 % 2 = 1 then 0xFF49 else 0xFF48) := by
  have hbit : (m.oam n 3).getLsbD 4 = true ↔ oamValue m n 3 / 16 % 2 = 1 := getLsbD_iff_div _ 4
  rw [Memory.spritePalette, if_congr hbit rfl rfl, apply_ite m.read]
  rfl

/-- The column of a sprite's pixel, after the X flip, in integers. -/
theorem spriteColumn_eq (attr : Byte) {x left : Nat} (h : left ≤ x + 8 ∧ x + 8 < left + 8) :
    let p : Int := (x : Int) - ((left : Int) - 8)
    (if attr.getLsbD 5 then 7 - (x + 8 - left) else x + 8 - left) =
      (if attr.toNat / 32 % 2 = 1 then 7 - p else p).toNat := by
  intro p
  have hflip : attr.getLsbD 5 = true ↔ attr.toNat / 32 % 2 = 1 := getLsbD_iff_div _ 5
  rw [if_congr hflip rfl rfl]
  split <;> omega

theorem shade_eq_zero_iff (i : Shade) : i = 0 ↔ i.toNat = 0 := BitVec.toNat_inj.symm

/-- A sprite's pixel through its palette, in integers: nothing for index 0 or a hidden one. -/
theorem paintedShade_toNat {i : Shade} {value : Nat} (hi : i.toNat = value) {hidden hidden' : Prop}
    [Decidable hidden] [Decidable hidden'] (hh : hidden ↔ hidden') (pal : Byte) :
    (if i = 0 then none else if hidden then none else some (paletteShade pal i)).map BitVec.toNat =
      if value ≠ 0 ∧ ¬hidden' then some (shadeValue pal.toNat value) else none := by
  subst hi
  by_cases h0 : i = 0
  · rw [if_pos h0, if_neg fun h => h.1 ((shade_eq_zero_iff i).mp h0)]
    rfl
  · have hne : i.toNat ≠ 0 := mt (shade_eq_zero_iff i).mpr h0
    rw [if_neg h0, ← paletteShade_toNat]
    by_cases hhid : hidden
    · rw [if_pos hhid, if_neg fun h => h.2 (hh.mp hhid)]
      rfl
    · rw [if_neg hhid, if_pos ⟨hne, mt hh.mpr hhid⟩]
      rfl

/-- What a sprite that meets the line paints at a column. -/
theorem Memory.spriteShade_toNat {m : Memory} {ly x n : Nat} (h : m.spriteOnLine ly n = true) :
    (m.spriteShade ly x n).map BitVec.toNat = spriteValue m ly x n := by
  have hx : (m.oam n 1).toNat = oamValue m n 1 := rfl
  unfold Memory.spriteShade spriteValue
  dsimp only
  by_cases hin : (m.oam n 1).toNat ≤ x + 8 ∧ x + 8 < (m.oam n 1).toNat + 8
  · have hp : 0 ≤ (x : Int) - ((oamValue m n 1 : Int) - 8) ∧ (x : Int) - ((oamValue m n 1 : Int) - 8) < 8 := by
      omega
    have hback : m.backColour ly x = 0 ↔ (behindValue m ly x).getD 0 = 0 := by
      rw [shade_eq_zero_iff, Memory.backColour_toNat]
    have hhidden : ((m.oam n 3).getLsbD 7 = true ∧ m.backColour ly x ≠ 0) ↔
        (oamValue m n 3 / 128 % 2 = 1 ∧ (behindValue m ly x).getD 0 ≠ 0) :=
      and_congr (getLsbD_iff_div _ 7) hback.not
    rw [if_pos hin, paintedShade_toNat (m.tilePixel_toNat ..) hhidden, Memory.spriteRow_eq h,
      spriteColumn_eq (m.oam n 3) hin, m.spriteTile_eq, m.spritePalette_eq]
    exact if_congr ⟨fun hA => ⟨hp.1, hp.2, hA⟩, fun ⟨_, _, hA⟩ => hA⟩ rfl rfl
  · rw [if_neg hin, if_neg fun ⟨hlow, hhigh, _⟩ => hin (by omega)]
    rfl

/-! ### The sprites of a line, in order (R222) -/

/-- The order of the sprites is total and transitive, so inserting each at its place sorts them. -/
theorem Memory.lineSprites_eq (m : Memory) (ly : Nat) :
    m.lineSprites ly = ((List.range oamEntries).filter (m.spriteOnLine ly)).insertionSort m.spriteBefore := by
  have hplace (n : Nat) (l : List Nat) : m.placeSprite n l = l.orderedInsert m.spriteBefore n := by
    induction l with
    | nil => rfl
    | cons k rest ih => rw [Memory.placeSprite, ih, List.orderedInsert_cons]
  exact congrArg (List.foldr · [] _) (funext₂ hplace)

theorem Memory.mem_lineSprites (m : Memory) (ly n : Nat) :
    n ∈ m.lineSprites ly ↔ n < 40 ∧ m.spriteOnLine ly n = true := by
  rw [Memory.lineSprites_eq, List.mem_insertionSort, List.mem_filter, List.mem_range]
  rfl

theorem Memory.lineSprites_sorted (m : Memory) (ly : Nat) : (m.lineSprites ly).Pairwise m.spriteBefore := by
  have htotal : Std.Total m.spriteBefore := ⟨fun n k => by unfold Memory.spriteBefore; omega⟩
  have htrans : IsTrans Nat m.spriteBefore := ⟨fun n k j => by unfold Memory.spriteBefore; omega⟩
  rw [Memory.lineSprites_eq]
  exact List.pairwise_insertionSort _ _

/-- A sprite over another is not after it in the order. -/
theorem Memory.not_spriteBefore_of_spriteOver {m : Memory} {n k : Nat} (h : spriteOver m n k) :
    ¬m.spriteBefore k n := by
  have hx (j : Nat) : (m.oam j 1).toNat = oamValue m j 1 := rfl
  unfold spriteOver at h
  unfold Memory.spriteBefore
  simp only [hx]
  omega

/-! ### Painting a column (R220, R222) -/

/-- Painting back to front shows the first sprite of the order that paints the column. -/
theorem Memory.paintColumn_eq (m : Memory) (ly : Nat) (order : List Nat) (x : Nat) :
    m.paintColumn ly order x = (order.findSome? (m.spriteShade ly x)).getD (m.backShade ly x) := by
  induction order with
  | nil => rfl
  | cons n rest ih =>
    rw [Memory.paintColumn] at ih ⊢
    rw [List.reverse_cons, List.foldl_append, ih, List.findSome?_cons, List.foldl_cons, List.foldl_nil]
    cases m.spriteShade ly x n <;> rfl

theorem Memory.renderLine_getElem (m : Memory) (ly : Nat) {x : Nat} (hx : x < 160) :
    (m.renderLine ly)[x] =
      ((m.paintedSprites ly).findSome? (m.spriteShade ly x)).getD (m.backShade ly x) := by
  rw [← Memory.paintColumn_eq]
  simp [Memory.renderLine]

/-- Where no sprite of the line paints, or the sprites are off, the column shows what is behind them. -/
theorem Memory.renderLine_of_none {m : Memory} {ly x : Nat} (hx : x < 160)
    (h : ∀ n ∈ m.paintedSprites ly, m.spriteShade ly x n = none) : (m.renderLine ly)[x] = m.backShade ly x := by
  rw [m.renderLine_getElem ly hx, List.findSome?_eq_none_iff.mpr h]
  rfl

/-- With LCDC bit 1 = 0 no sprite is painted. -/
theorem Memory.paintedSprites_off {m : Memory} (h : (m.read 0xFF40).getLsbD 1 = false) (ly : Nat) :
    m.paintedSprites ly = [] := if_neg (Bool.eq_false_iff.mp h)

theorem Memory.paintedSprites_on {m : Memory} (h : (m.read 0xFF40).getLsbD 1 = true) (ly : Nat) :
    m.paintedSprites ly = m.lineSprites ly := if_pos h

/-- Only sprites that meet the line are painted. -/
theorem Memory.on_line_of_mem_paintedSprites {m : Memory} {ly n : Nat} (h : n ∈ m.paintedSprites ly) :
    n < 40 ∧ m.spriteOnLine ly n = true := by
  unfold Memory.paintedSprites at h
  split at h
  · exact (m.mem_lineSprites ly n).mp h
  · exact absurd h List.not_mem_nil

/-- The first painting sprite in the order, if every other painting one comes after it. -/
theorem Memory.findSome_lineSprites {m : Memory} {ly x n : Nat} {c : Shade} (hmem : n ∈ m.lineSprites ly)
    (hc : m.spriteShade ly x n = some c)
    (hover : ∀ k ∈ m.lineSprites ly, k ≠ n → m.spriteShade ly x k ≠ none → spriteOver m n k) :
    (m.lineSprites ly).findSome? (m.spriteShade ly x) = some c := by
  have hsorted := m.lineSprites_sorted ly
  obtain ⟨before, after, hsplit, hnot⟩ := List.eq_append_cons_of_mem hmem
  rw [hsplit] at hsorted hover ⊢
  refine List.findSome?_eq_some_iff.mpr ⟨before, n, after, rfl, hc, fun k hk => ?_⟩
  have hbefore : m.spriteBefore k n := (List.pairwise_append.mp hsorted).2.2 k hk n (List.mem_cons_self ..)
  have hne : k ≠ n := fun he => hnot (he ▸ hk)
  by_contra hpaints
  exact Memory.not_spriteBefore_of_spriteOver (hover k (List.mem_append_left _ hk) hne hpaints) hbefore

/-! ### What the renderer reads (R223) -/

/-- Two memories agree on the bytes the renderer reads: its registers, VRAM and OAM. -/
structure SameVideo (m m' : Memory) : Prop where
  io : ∀ a ∈ rendererRegisters, m.read a = m'.read a
  vram : ∀ a, 0x8000 ≤ a → a ≤ 0x9FFF → m.read a = m'.read a
  oam : ∀ a, 0xFE00 ≤ a → a ≤ 0xFE9F → m.read a = m'.read a

/-- The tiles of the background and the window are in VRAM. -/
theorem tileBase_range (lcdc t : Byte) : 0x8000 ≤ tileBase lcdc t ∧ tileBase lcdc t ≤ 0x97F0 := by
  have hlow : -128 ≤ t.toInt := BitVec.le_toInt t
  have hhigh : t.toInt < 128 := BitVec.toInt_lt
  have hlt := t.isLt
  unfold tileBase
  split <;> omega

theorem mapBase_range (lcdc : Byte) (k : Nat) : 0x9800 ≤ mapBase lcdc k ∧ mapBase lcdc k ≤ 0x9C00 := by
  unfold mapBase
  split <;> decide

section
variable {m m' : Memory} (h : SameVideo m m')
include h

theorem SameVideo.register {a : Word} (ha : a.toNat ∈ rendererRegisters) : m.io a = m'.io a := h.io _ ha

theorem SameVideo.tilePixel {base row : Nat} (col : Nat) (hlow : 0x8000 ≤ base)
    (hhigh : base + 2 * row + 1 ≤ 0x9FFF) : m.tilePixel base row col = m'.tilePixel base row col := by
  rw [Memory.tilePixel, Memory.tilePixel, h.vram _ (by omega) hhigh, h.vram (base + 2 * row) (by omega) (by omega)]

/-- A tile map has 32 rows of 32 tiles. -/
theorem SameVideo.mapPixel (k : Nat) {row col : Nat} (hrow : row < 256) (hcol : col < 256) :
    m.mapPixel (mapBase (m.io ioLcdc) k) row col = m'.mapPixel (mapBase (m'.io ioLcdc) k) row col := by
  have hlcdc : m.io ioLcdc = m'.io ioLcdc := h.register (by decide)
  have hmap := mapBase_range (m'.io ioLcdc) k
  have ht : m.read (mapBase (m'.io ioLcdc) k + row / 8 * 32 + col / 8) =
      m'.read (mapBase (m'.io ioLcdc) k + row / 8 * 32 + col / 8) := h.vram _ (by omega) (by omega)
  rw [Memory.mapPixel, Memory.mapPixel, hlcdc, ht]
  have htile := tileBase_range (m'.io ioLcdc) (m'.read (mapBase (m'.io ioLcdc) k + row / 8 * 32 + col / 8))
  exact h.tilePixel _ htile.1 (by omega)

theorem SameVideo.bgIndex (ly x : Nat) : m.bgIndex ly x = m'.bgIndex ly x := by
  have hlcdc : m.io ioLcdc = m'.io ioLcdc := h.register (by decide)
  have hscy : m.io ioScy = m'.io ioScy := h.register (by decide)
  have hscx : m.io ioScx = m'.io ioScx := h.register (by decide)
  rw [Memory.bgIndex, Memory.bgIndex, h.mapPixel 3 (Nat.mod_lt _ (by decide)) (Nat.mod_lt _ (by decide)), hlcdc, hscy,
    hscx]

theorem SameVideo.windowIndex {ly x : Nat} (hly : ly < 144) (hx : x < 160) :
    m.windowIndex ly x = m'.windowIndex ly x := by
  have hlcdc : m.io ioLcdc = m'.io ioLcdc := h.register (by decide)
  have hwy : m.io ioWy = m'.io ioWy := h.register (by decide)
  have hwx : m.io ioWx = m'.io ioWx := h.register (by decide)
  rw [Memory.windowIndex, Memory.windowIndex, h.mapPixel 6 (by omega) (by omega), hlcdc, hwy, hwx]

theorem SameVideo.backIndex {ly x : Nat} (hly : ly < 144) (hx : x < 160) : m.backIndex ly x = m'.backIndex ly x := by
  rw [Memory.backIndex, Memory.backIndex, h.windowIndex hly hx, h.bgIndex]

theorem SameVideo.backColour {ly x : Nat} (hly : ly < 144) (hx : x < 160) : m.backColour ly x = m'.backColour ly x := by
  rw [Memory.backColour, Memory.backColour, h.backIndex hly hx]

theorem SameVideo.backShade {ly x : Nat} (hly : ly < 144) (hx : x < 160) : m.backShade ly x = m'.backShade ly x := by
  have hbgp : m.io ioBgp = m'.io ioBgp := h.register (by decide)
  rw [Memory.backShade, Memory.backShade, h.backIndex hly hx, hbgp]

theorem SameVideo.oamByte {n k : Nat} (hn : n < 40) (hk : k < 4) : m.oam n k = m'.oam n k :=
  h.oam _ (by unfold oamBase; omega) (by unfold oamBase; omega)

theorem SameVideo.spriteHeight : m.spriteHeight = m'.spriteHeight := by
  have hlcdc : m.io ioLcdc = m'.io ioLcdc := h.register (by decide)
  rw [Memory.spriteHeight, Memory.spriteHeight, hlcdc]

theorem SameVideo.spriteOnLine (ly : Nat) {n : Nat} (hn : n < 40) : m.spriteOnLine ly n = m'.spriteOnLine ly n := by
  rw [Memory.spriteOnLine, Memory.spriteOnLine, h.oamByte hn (by decide), h.spriteHeight]

/-- The sprites of the line are the same, in the same order. -/
theorem SameVideo.lineSprites (ly : Nat) : m.lineSprites ly = m'.lineSprites ly := by
  have hfilter : (List.range oamEntries).filter (m.spriteOnLine ly) =
      (List.range oamEntries).filter (m'.spriteOnLine ly) :=
    List.filter_congr fun n hn => h.spriteOnLine ly (List.mem_range.mp hn)
  have hx {n : Nat} (hn : n ∈ (List.range oamEntries).filter (m'.spriteOnLine ly)) : m.oam n 1 = m'.oam n 1 :=
    h.oamByte (List.mem_range.mp (List.mem_of_mem_filter hn)) (by decide)
  have hsort := List.map_insertionSort m.spriteBefore m'.spriteBefore id
    ((List.range oamEntries).filter (m'.spriteOnLine ly)) fun n hn k hk => by
      unfold Memory.spriteBefore
      rw [hx hn, hx hk]
      rfl
  rw [Memory.lineSprites_eq, Memory.lineSprites_eq, hfilter]
  simpa only [List.map_id] using hsort

theorem SameVideo.spriteRow (ly : Nat) {n : Nat} (hn : n < 40) : m.spriteRow ly n = m'.spriteRow ly n := by
  rw [Memory.spriteRow, Memory.spriteRow, h.oamByte hn (by decide : 0 < 4), h.oamByte hn (by decide : 3 < 4),
    h.spriteHeight]

theorem SameVideo.spriteTile {n : Nat} (hn : n < 40) : m.spriteTile n = m'.spriteTile n := by
  rw [Memory.spriteTile, Memory.spriteTile, h.oamByte hn (by decide), h.spriteHeight]

theorem SameVideo.spritePalette {n : Nat} (hn : n < 40) : m.spritePalette n = m'.spritePalette n := by
  have hobp0 : m.io ioObp0 = m'.io ioObp0 := h.register (by decide)
  have hobp1 : m.io ioObp1 = m'.io ioObp1 := h.register (by decide)
  rw [Memory.spritePalette, Memory.spritePalette, h.oamByte hn (by decide), hobp0, hobp1]

/-- The row of a sprite off the line would leave VRAM, so this is about the sprites of the line. -/
theorem SameVideo.spriteShade {ly x n : Nat} (hly : ly < 144) (hx : x < 160) (hn : n < 40)
    (hline : m.spriteOnLine ly n = true) : m.spriteShade ly x n = m'.spriteShade ly x n := by
  have hrow := Memory.spriteRow_lt hline
  have htile := m.spriteTile_range n
  have hpixel (col : Nat) : m.tilePixel (0x8000 + 16 * m.spriteTile n) (m.spriteRow ly n) col =
      m'.tilePixel (0x8000 + 16 * m'.spriteTile n) (m'.spriteRow ly n) col := by
    rw [h.tilePixel col (by omega) (by omega), h.spriteTile hn, h.spriteRow ly hn]
  simp only [Memory.spriteShade, hpixel, h.oamByte hn (by decide : 1 < 4), h.oamByte hn (by decide : 3 < 4),
    h.backColour hly hx, h.spritePalette hn]

theorem SameVideo.paintedSprites (ly : Nat) : m.paintedSprites ly = m'.paintedSprites ly := by
  have hlcdc : m.io ioLcdc = m'.io ioLcdc := h.register (by decide)
  rw [Memory.paintedSprites, Memory.paintedSprites, hlcdc, h.lineSprites]

/-- The line is a function of what the renderer reads (R223). -/
theorem SameVideo.renderLine {ly : Nat} (hly : ly < 144) : m.renderLine ly = m'.renderLine ly := by
  refine Vector.ext fun x hx => ?_
  have hshades : ∀ n ∈ m'.paintedSprites ly, m.spriteShade ly x n = m'.spriteShade ly x n := by
    intro n hn
    obtain ⟨hlt, hline⟩ := Memory.on_line_of_mem_paintedSprites hn
    exact h.spriteShade hly hx hlt ((h.spriteOnLine ly hlt).trans hline)
  have hfirst : (m'.paintedSprites ly).findSome? (m.spriteShade ly x) =
      (m'.paintedSprites ly).findSome? (m'.spriteShade ly x) := by
    simpa only [List.findSome?_map, Function.id_comp] using
      congrArg (List.findSome? id) (List.map_congr_left hshades)
  rw [m.renderLine_getElem ly hx, m'.renderLine_getElem ly hx, h.paintedSprites, h.backShade hly hx, hfirst]

end

end Sys2Proof.Machine

/-! ### The obligations -/

namespace Sys2Proof.Scope

open Sys2Proof Sys2Proof.Machine

/-- Settles O26: every byte that enters the line is one of the listed ones. -/
theorem renderingIsPure : Obligations.RenderingIsPure := by
  unfold Obligations.RenderingIsPure
  intro m m' ly hly hio hvram hoam
  exact SameVideo.renderLine ⟨hio, hvram, hoam⟩ hly

/-- Settles O28: the sprites of a line are sorted, and the first that paints a column is the one that shows. -/
theorem spritePriority : Obligations.SpritePriority := by
  unfold Obligations.SpritePriority
  refine ⟨Memory.spriteOnLine_iff, fun _ _ _ _ h => Memory.spriteShade_toNat h,
    fun m ly x hx => ⟨fun hoff => ?_, fun hnone => ?_, fun n c hon hn hline hc hover => ?_⟩⟩
  · refine Memory.renderLine_of_none hx ?_
    simp [Memory.paintedSprites_off hoff]
  · refine Memory.renderLine_of_none hx fun n hn => ?_
    obtain ⟨hlt, hline⟩ := Memory.on_line_of_mem_paintedSprites hn
    exact hnone n hlt hline
  · have hshows : (m.lineSprites ly).findSome? (m.spriteShade ly x) = some c := by
      refine Memory.findSome_lineSprites ((m.mem_lineSprites ly n).mpr ⟨hn, hline⟩) hc fun k hk => ?_
      obtain ⟨hlt, hlineK⟩ := (m.mem_lineSprites ly k).mp hk
      exact fun hne => hover k hlt hne hlineK
    rw [m.renderLine_getElem ly hx, Memory.paintedSprites_on hon, hshows]
    rfl

/-- Settles O29: the model's bit operations on the bytes are the integer ones. -/
theorem backgroundAndWindowShades : Obligations.BackgroundAndWindowShades := by
  unfold Obligations.BackgroundAndWindowShades
  intro m ly x
  refine ⟨m.backColour_toNat ly x, m.backShade_toNat ly x, fun hx hoff => ?_⟩
  rw [Memory.renderLine_of_none hx (by simp [Memory.paintedSprites_off hoff]), Memory.backShade_toNat]

end Sys2Proof.Scope
end

section
/-! PROOFS. The PPU: its modes, what it publishes in LY and STAT, its requests and frames, and the frame buffer: the
statements O23 to O25 and O27. The lemmas about the model come first. -/

namespace Sys2Proof.Machine

open Sys2Proof

/-! ### The bits of STAT (R35, R217) -/

theorem statByte_high (stat : Byte) (coincidence : Bool) (mode : PpuMode) :
    (statByte stat coincidence mode).extractLsb' 3 5 = stat.extractLsb' 3 5 := by
  apply BitVec.eq_of_getLsbD_eq
  intro i hi
  have hpast : 3 + i - 2 - 1 = i := by omega
  rw [BitVec.getLsbD_extractLsb', statByte, BitVec.getLsbD_append, if_neg (by omega), BitVec.getLsbD_append,
    if_neg (by omega), hpast, decide_eq_true hi, Bool.true_and]

theorem statByte_mode (stat : Byte) (coincidence : Bool) (mode : PpuMode) :
    (statByte stat coincidence mode).extractLsb' 0 2 = mode.bits := by
  apply BitVec.eq_of_getLsbD_eq
  intro i hi
  rw [BitVec.getLsbD_extractLsb', Nat.zero_add, statByte, BitVec.getLsbD_append, if_pos hi, decide_eq_true hi,
    Bool.true_and]

theorem statByte_coincidence (stat : Byte) (coincidence : Bool) (mode : PpuMode) :
    (statByte stat coincidence mode).getLsbD 2 = coincidence := by
  rw [statByte, BitVec.getLsbD_append, if_neg (by decide), BitVec.getLsbD_append, if_pos (by decide)]
  cases coincidence <;> rfl

theorem statByte_enable (stat : Byte) (coincidence : Bool) (mode : PpuMode) :
    (statByte stat coincidence mode).getLsbD 6 = stat.getLsbD 6 := by
  have h := congrArg (BitVec.getLsbD · 3) (statByte_high stat coincidence mode)
  simp only [BitVec.getLsbD_extractLsb'] at h
  exact h

/-! ### What the advance publishes (R217, R219) -/

/-- LY shows the scanline, STAT bits 1..0 the mode and bit 2 the coincidence, and with STAT bit 6 a coincidence has
requested the STAT interrupt. -/
structure Published (t : State) : Prop where
  ly : t.raw ioLy = BitVec.ofNat 8 t.ppu.ly
  mode : (t.raw ioStat).extractLsb' 0 2 = t.ppu.mode.bits
  coincidence : (t.raw ioStat).getLsbD 2 = decide (t.ppu.ly = (t.raw ioLyc).toNat)
  request : t.ppu.ly = (t.raw ioLyc).toNat → (t.raw ioStat).getLsbD 6 = true → (t.raw ioIf).getLsbD 1 = true

/-- The published STAT byte. -/
theorem State.ppuPublish_raw_stat (s : State) :
    s.ppuPublish.raw ioStat = statByte (s.raw ioStat) s.coincidence (ppuModeAt s.ppu.ly s.ppu.dot) := by
  rw [State.ppuPublish_raw, if_neg (by decide), if_pos rfl]

/-- The publication writes IF, STAT and LY only. -/
theorem State.ppuPublish_raw_other (s : State) {a : Word} (hif : a ≠ ioIf) (hstat : a ≠ ioStat) (hly : a ≠ ioLy) :
    s.ppuPublish.raw a = s.raw a := by
  rw [State.ppuPublish_raw, if_neg hif, if_neg hstat, if_neg hly]

/-- The STAT bit of IF is ORed in where the condition `p` of the request holds. -/
theorem State.ppuPublish_raw_if (s : State) {p : Prop} [Decidable p]
    (hp : p ↔ s.ppu.ly = (s.raw ioLyc).toNat ∧ (s.raw ioStat).getLsbD 6 = true) :
    s.ppuPublish.raw ioIf = s.raw ioIf ||| if p then 0x02 else 0 := by
  have hrequest : (s.coincidence = true ∧ (s.raw ioStat).getLsbD 6 = true) ↔ p := by
    rw [hp, State.coincidence, decide_eq_true_eq]
  rw [State.ppuPublish_raw, if_pos rfl, if_congr hrequest rfl rfl]
  split
  · rfl
  · exact BitVec.or_zero.symm

theorem State.ppuPublish_published (s : State) : Published s.ppuPublish := by
  have hlyc : s.ppuPublish.raw ioLyc = s.raw ioLyc := s.ppuPublish_raw_other (by decide) (by decide) (by decide)
  have hly : s.ppuPublish.ppu.ly = s.ppu.ly := by rw [State.ppuPublish_ppu]
  constructor
  · rw [State.ppuPublish_raw, if_neg (by decide), if_neg (by decide), if_pos rfl, hly]
  · rw [State.ppuPublish_raw_stat, statByte_mode, State.ppuPublish_ppu]
  · rw [State.ppuPublish_raw_stat, statByte_coincidence, hlyc, hly]
    rfl
  · rw [State.ppuPublish_raw_stat, statByte_enable, hlyc, hly]
    intro hcoincidence hstat
    rw [s.ppuPublish_raw_if (iff_of_true trivial ⟨hcoincidence, hstat⟩), if_pos trivial, BitVec.getLsbD_or,
      Bool.or_eq_true]
    exact .inr rfl

/-- Counting the cycles is after the publication and touches none of it. -/
theorem State.advanceDevices_published (s : State) : Published s.advanceDevices := by
  obtain ⟨hly, hmode, hcoincidence, hrequest⟩ : Published ((s.timerAdvance s.cycles).ppuAdvance s.cycles) :=
    State.ppuPublish_published _
  exact ⟨hly, hmode, hcoincidence, hrequest⟩

/-! ### What the advance leaves alone (R217, R218) -/

theorem State.finishLine_raw_other (s : State) {a : Word} (ha : a ≠ ioIf) : s.finishLine.raw a = s.raw a := by
  rw [State.finishLine_raw, if_neg ha, ite_self]

/-- Finished lines write IF only. -/
theorem repeatTick_finishLine_raw_other (n : Nat) (s : State) {a : Word} (ha : a ≠ ioIf) :
    (repeatTick State.finishLine n s).raw a = s.raw a :=
  repeatTick_keeps (fun u => u.raw a) (fun u => u.finishLine_raw_other ha) n s

theorem State.ppuAdvance_raw_other (s : State) (c : Nat) {a : Word} (hif : a ≠ ioIf) (hstat : a ≠ ioStat)
    (hly : a ≠ ioLy) : (s.ppuAdvance c).raw a = s.raw a :=
  (State.ppuPublish_raw_other _ hif hstat hly).trans (repeatTick_finishLine_raw_other _ s hif)

/-- STAT bits 7..3 are kept. -/
theorem State.ppuAdvance_stat_high (s : State) (c : Nat) :
    ((s.ppuAdvance c).raw ioStat).extractLsb' 3 5 = (s.raw ioStat).extractLsb' 3 5 := by
  rw [State.ppuAdvance, State.ppuPublish_raw_stat, statByte_high]
  exact congrArg (BitVec.extractLsb' 3 5) (repeatTick_finishLine_raw_other _ s (by decide))

/-- The advance changes the backing array, the PPU and the frame count only. -/
theorem State.ppuAdvance_eq (s : State) (c : Nat) :
    s.ppuAdvance c = { s with
      mem := (s.ppuAdvance c).mem
      ppu := (s.ppuAdvance c).ppu
      out := { s.out with frames := (s.ppuAdvance c).out.frames } } := by
  have hsame := (s.ppuAdvance_frame c).same
  obtain ⟨htimer, htotal⟩ := s.ppuAdvance_keeps c
  rw [htimer, htotal] at hsame
  exact hsame

/-- The renderer reads nothing that the advance writes (R223). -/
theorem State.ppuAdvance_sameVideo (s : State) (c : Nat) : SameVideo s.mem (s.ppuAdvance c).mem := by
  have hread (a : Nat) (ha : a < 0x10000) (hother : a ∉ [0xFF0F, 0xFF41, 0xFF44]) :
      s.mem.read a = (s.ppuAdvance c).mem.read a := by
    have haddr : (BitVec.ofNat 16 a).toNat = a := Nat.mod_eq_of_lt ha
    have hne (x : Word) (hx : x.toNat ∈ [0xFF0F, 0xFF41, 0xFF44]) : BitVec.ofNat 16 a ≠ x := by
      rintro rfl
      exact hother (haddr ▸ hx)
    have hraw := s.ppuAdvance_raw_other c (hne ioIf (by decide)) (hne ioStat (by decide)) (hne ioLy (by decide))
    simpa only [State.raw, haddr] using hraw.symm
  have hregisters : ∀ a ∈ rendererRegisters, a < 0x10000 ∧ a ∉ [0xFF0F, 0xFF41, 0xFF44] := by decide
  refine ⟨fun a ha => hread a (hregisters a ha).1 (hregisters a ha).2, fun a _ ha => hread a (by omega) ?_,
    fun a _ ha => hread a (by omega) ?_⟩
  all_goals
    simp only [List.mem_cons, List.not_mem_nil, or_false]
    omega

/-! ### An advance of less than a scanline's dots (R216 to R218, R224)

It completes the current line or it does not. -/

/-- The PPU put at a dot of its line. -/
def State.atDot (s : State) (dot : Nat) : State := { s with ppu := { s.ppu with dot := dot } }

@[simp] theorem State.atDot_fb (s : State) (dot : Nat) : (s.atDot dot).ppu.fb = s.ppu.fb := rfl
@[simp] theorem State.atDot_out (s : State) (dot : Nat) : (s.atDot dot).out = s.out := rfl

theorem State.ppuAdvance_within {s : State} {c : Nat} (h : s.ppu.dot + c < 456) :
    s.ppuAdvance c = (s.atDot (s.ppu.dot + c)).ppuPublish := by
  simp only [State.ppuAdvance, dotsPerLine, Nat.div_eq_of_lt h, Nat.mod_eq_of_lt h, repeatTick, State.atDot]

theorem State.ppuAdvance_across {s : State} {c : Nat} (hlow : 456 ≤ s.ppu.dot + c) (hhigh : s.ppu.dot + c < 912) :
    s.ppuAdvance c = (s.finishLine.atDot ((s.ppu.dot + c) % 456)).ppuPublish := by
  have hone : (s.ppu.dot + c) / 456 = 1 := by omega
  simp only [State.ppuAdvance, dotsPerLine, hone, repeatTick, State.atDot]

@[simp] theorem State.ppuPublish_ly (s : State) : s.ppuPublish.ppu.ly = s.ppu.ly := by
  rw [State.ppuPublish_ppu]
@[simp] theorem State.ppuPublish_fb (s : State) : s.ppuPublish.ppu.fb = s.ppu.fb := by
  rw [State.ppuPublish_ppu]
@[simp] theorem State.ppuPublish_out (s : State) : s.ppuPublish.out = s.out := by
  rw [State.ppuPublish_eq]

theorem State.finishLine_fb (s : State) :
    s.finishLine.ppu.fb =
      if s.ppu.ly < 144 then s.ppu.fb.setIfInBounds s.ppu.ly (s.mem.renderLine s.ppu.ly) else s.ppu.fb := by
  rw [State.finishLine, State.enterLine_ppu]
  show s.renderCurrentLine.ppu.fb = _
  unfold State.renderCurrentLine
  split
  · next h => exact (if_pos h).symm
  · next h => exact (if_neg h).symm

section
variable {s : State} {c : Nat} (hdot : s.ppu.dot < 456) (hc : c < 456)
include hdot hc

/-- Line 144 is entered where line 143 completes. -/
theorem State.entersVBlank_iff :
    s.ppu.ly = 143 ∧ (s.ppuAdvance c).ppu.ly = 144 ↔ 456 ≤ s.ppu.dot + c ∧ s.ppu.ly = 143 := by
  obtain ⟨hly, -, -⟩ := s.ppuAdvance_counters c
  rw [hly]
  split <;> omega

/-- One frame is emitted where line 144 is entered. -/
theorem State.ppuAdvance_frames (hly : s.ppu.ly < 154) :
    (s.ppuAdvance c).out.frames =
      s.out.frames + if s.ppu.ly = 143 ∧ (s.ppuAdvance c).ppu.ly = 144 then 1 else 0 := by
  rw [if_congr (State.entersVBlank_iff hdot hc) rfl rfl]
  by_cases h : s.ppu.dot + c < 456
  · rw [State.ppuAdvance_within h, State.ppuPublish_out, if_neg (by omega)]
    rfl
  · have hvblank : (s.ppu.ly + 1) % 154 = 144 ↔ 456 ≤ s.ppu.dot + c ∧ s.ppu.ly = 143 := by omega
    rw [State.ppuAdvance_across (by omega) (by omega), State.ppuPublish_out, State.atDot_out, State.finishLine_frames,
      if_congr hvblank rfl rfl]

/-- The V-Blank bit of IF is ORed in where line 144 is entered, the STAT bit where the scanline reached is LYC and
STAT bit 6 is 1. -/
theorem State.ppuAdvance_requests (hly : s.ppu.ly < 154) :
    (s.ppuAdvance c).raw ioIf =
      s.raw ioIf ||| (if s.ppu.ly = 143 ∧ (s.ppuAdvance c).ppu.ly = 144 then 0x01 else 0) |||
        if (s.ppuAdvance c).ppu.ly = (s.raw ioLyc).toNat ∧ (s.raw ioStat).getLsbD 6 = true then 0x02 else 0 := by
  have hkept : s.raw ioIf ||| 0 = s.raw ioIf := BitVec.or_zero
  rw [if_congr (State.entersVBlank_iff hdot hc) rfl rfl]
  by_cases h : s.ppu.dot + c < 456
  · have hnot : ¬(456 ≤ s.ppu.dot + c ∧ s.ppu.ly = 143) := by omega
    rw [if_neg hnot, hkept, State.ppuAdvance_within h, State.ppuPublish_ly]
    exact State.ppuPublish_raw_if _ Iff.rfl
  · have hvblank : (s.ppu.ly + 1) % 154 = 144 ↔ 456 ≤ s.ppu.dot + c ∧ s.ppu.ly = 143 := by omega
    have hif : s.finishLine.raw ioIf = s.raw ioIf ||| if 456 ≤ s.ppu.dot + c ∧ s.ppu.ly = 143 then 0x01 else 0 := by
      rw [State.finishLine_raw, if_pos rfl, if_congr hvblank rfl rfl, apply_ite (s.raw ioIf ||| ·), hkept]
    rw [← hif, State.ppuAdvance_across (by omega) (by omega), State.ppuPublish_ly,
      ← s.finishLine_raw_other (by decide : ioLyc ≠ ioIf), ← s.finishLine_raw_other (by decide : ioStat ≠ ioIf)]
    exact State.ppuPublish_raw_if _ Iff.rfl

/-- The frame buffer changes in the row of a visible line that completes, and is drawn from the memory before. -/
theorem State.ppuAdvance_fb :
    (s.ppuAdvance c).ppu.fb =
      if (s.ppuAdvance c).ppu.ly ≠ s.ppu.ly ∧ s.ppu.ly < 144 then
        s.ppu.fb.setIfInBounds s.ppu.ly (s.mem.renderLine s.ppu.ly)
      else s.ppu.fb := by
  obtain ⟨hly, -, -⟩ := s.ppuAdvance_counters c
  by_cases h : s.ppu.dot + c < 456
  · rw [if_pos h] at hly
    rw [if_neg fun hne => hne.1 hly, State.ppuAdvance_within h, State.ppuPublish_fb, State.atDot_fb]
  · rw [if_neg h] at hly
    have hmoved : (s.ppuAdvance c).ppu.ly ≠ s.ppu.ly := by omega
    rw [if_congr (and_iff_right hmoved) rfl rfl, State.ppuAdvance_across (by omega) (by omega), State.ppuPublish_fb,
      State.atDot_fb, State.finishLine_fb]

end

/-! ### The PPU in a step (R232) -/

/-- A step's PPU advance starts from the counters, the frame buffer and the frame count that the step found, and
takes less than a scanline's dots. -/
theorem step_ppuAdvance {s t : State} (h : step s = .next t) :
    ∃ (v : State) (c : Nat), v.ppu = s.ppu ∧ v.out.frames = s.out.frames ∧ c < 456 ∧
      t.ppu = (v.ppuAdvance c).ppu ∧ t.mem = (v.ppuAdvance c).mem ∧ t.out.frames = (v.ppuAdvance c).out.frames := by
  obtain ⟨u, tr, htouch, hcost, rfl⟩ := step_advances_cost h
  obtain ⟨hppu, hout⟩ := u.timerAdvance_keeps u.cycles
  have hlt : ∀ c ∈ stepCosts, c < 456 := by decide
  refine ⟨u.timerAdvance u.cycles, u.cycles, ?_, ?_, hlt _ hcost, rfl, rfl, rfl⟩
  · rw [hppu, htouch.ppu, State.prelude_ppu]
  · rw [hout, htouch.frames, State.prelude_out]

end Sys2Proof.Machine

/-! ### The obligations -/

namespace Sys2Proof.Scope

open Sys2Proof Sys2Proof.Machine

/-- Settles O23: the encodings of the modes by their ranges. -/
theorem modeThresholds : Obligations.ModeThresholds := by
  unfold Obligations.ModeThresholds
  refine ⟨fun ly dot => ?_, rfl, rfl, rfl⟩
  rw [ppuModeAt, apply_ite PpuMode.bits, apply_ite PpuMode.bits, apply_ite PpuMode.bits]
  rfl

/-- Settles O24: the publication ends the PPU's advance, and the count and the trace come after it. -/
theorem lyAndStatPublished : Obligations.LyAndStatPublished := by
  unfold Obligations.LyAndStatPublished
  refine ⟨State.ppuAdvance_stat_high, fun s t h => ?_⟩
  obtain ⟨u, tr, -, rfl⟩ := step_advances h
  obtain ⟨hly, hmode, hcoincidence, hrequest⟩ := u.advanceDevices_published
  exact ⟨hly, hmode, hcoincidence, hrequest⟩

/-- Settles O25: an advance completes at most one line, and a step advances by less than a line's dots. -/
theorem vBlankOncePerFrame : Obligations.VBlankOncePerFrame := by
  unfold Obligations.VBlankOncePerFrame
  refine ⟨fun s c hcounters hc => ?_, fun s t hcounters h => ?_⟩
  · obtain ⟨-, hly, hdot, -⟩ := hcounters
    refine ⟨State.ppuAdvance_requests hdot hc hly, State.ppuAdvance_frames hdot hc hly, s.ppuAdvance_eq c,
      fun a ha => ?_⟩
    simp only [List.mem_cons, not_or] at ha
    exact s.ppuAdvance_raw_other c ha.1 ha.2.1 ha.2.2.1
  · obtain ⟨-, hly, hdot, -⟩ := hcounters
    obtain ⟨v, c, hppu, hframes, hc, hppuT, hmemT, hframesT⟩ := step_ppuAdvance h
    rw [← hppu] at hly hdot
    have hcount := State.ppuAdvance_frames hdot hc hly
    have hrequests := State.ppuAdvance_requests hdot hc hly
    rw [hppuT, hframesT, ← hppu, ← hframes]
    refine ⟨fun henters => ⟨?_, hcount.trans (congrArg _ (if_pos henters))⟩,
      fun hnot => hcount.trans (congrArg _ (if_neg hnot))⟩
    have hraw : t.raw ioIf = (v.ppuAdvance c).raw ioIf := by rw [State.raw, hmemT, State.raw]
    have hbit : (t.raw ioIf).getLsbD 0 = true := by
      rw [hraw, hrequests, if_pos henters, BitVec.getLsbD_or, BitVec.getLsbD_or]
      simp
    exact hbit

/-- Settles O27: the line is drawn from the memory before the PPU publishes, which draws the same line after it. -/
theorem frameBufferChangesByWholeLines : Obligations.FrameBufferChangesByWholeLines := by
  unfold Obligations.FrameBufferChangesByWholeLines
  intro s t hcounters h
  obtain ⟨-, -, hdot, -⟩ := hcounters
  obtain ⟨v, c, hppu, -, hc, hppuT, hmemT, -⟩ := step_ppuAdvance h
  rw [← hppu] at hdot
  rw [hppuT, hmemT, ← hppu, State.ppuAdvance_fb hdot hc]
  split
  · next hvisible => rw [(v.ppuAdvance_sameVideo c).renderLine hvisible.2]
  · rfl

end Sys2Proof.Scope
end
